-- ==== Sys2Proof/Word.lean ====
section
/-! DEFINITION. Sys2Proof/Word.lean: the words of the block (spec/00_scope.md R7): unsigned values of 4, 8, 16, 64 and
128 bits, and texts as finite sequences of bytes. -/

namespace Sys2Proof

/-- A 4-bit value: an opcode, a hex digit, a version code (R7, R15). -/
abbrev U4 := BitVec 4

/-- A byte; on a text port it holds one character code (R7, R22). -/
abbrev Byte := BitVec 8

/-- A 16-bit value: a prefix or a device id (R7, R11). -/
abbrev U16 := BitVec 16

/-- A 64-bit value: a count of microseconds or a random word (R7, R15). -/
abbrev U64 := BitVec 64

/-- A 128-bit value: an identifier, which is the same 128 wires as its raw value (R1, R24). -/
abbrev U128 := BitVec 128

/-- A text is a finite sequence of bytes, its first character at the head (R7). -/
abbrev Text := List Byte

/-- The 32 byte lanes of a text port, lane 0 the first character (R15, R22). -/
abbrev Lanes := Vector Byte 32

end Sys2Proof
end

