-- ==== Sys2Proof/Config.lean ====
section
/-! DEFINITION. Sys2Proof/Config.lean: the constants of the block (spec/00_scope.md R6), and the values the spec leaves
open, each an opaque constant of which nothing can be proved. -/

namespace Sys2Proof.Config

/-- `PREFIX_SHIFT` (R6). -/
abbrev prefixShift : Nat := 112
/-- `VERSION_SHIFT` (R6). -/
abbrev versionShift : Nat := 108
/-- `DEVICE_SHIFT` (R6). -/
abbrev deviceShift : Nat := 92
/-- `TIMESTAMP_SHIFT` (R6). -/
abbrev timestampShift : Nat := 44
/-- `RANDOM_SHIFT` (R6). -/
abbrev randomShift : Nat := 0

/-- `PREFIX_W` (R6). -/
abbrev prefixWidth : Nat := 16
/-- `VERSION_W` (R6). -/
abbrev versionWidth : Nat := 4
/-- `DEVICE_W` (R6). -/
abbrev deviceWidth : Nat := 16
/-- `TIMESTAMP_W` (R6). -/
abbrev timestampWidth : Nat := 48
/-- `RANDOM_W` (R6). -/
abbrev randomWidth : Nat := 44

/-- `VERSION`, the version code of every identifier the block makes (R6, R34). -/
abbrev version : U4 := 1#4

/-- `MASK48` = 2^48 - 1 (R6). -/
abbrev mask48 : U64 := 0x0000FFFFFFFFFFFF#64

/-- `MASK44` = 2^44 - 1 (R6). -/
abbrev mask44 : U64 := 0x00000FFFFFFFFFFF#64

/-- `PREFIX_CLEAR` = 2^112 - 1 (R6). -/
abbrev prefixClear : U128 := 0x0000FFFFFFFFFFFFFFFFFFFFFFFFFFFF#128

/-- `TEXT_LEN`, the number of characters of the canonical text form (R6). -/
abbrev textLen : Nat := 32

/-- `DEVICE_ID_RESET`, the reset value of both device id registers (R6). -/
abbrev deviceIdReset : U16 := 0#16

/-- `PREFIX_UNCATEGORIZED`, the sentinel prefix: an open parameter of the spec (R6; D10, N1), assumption log 4. Nothing
constrains it, so a statement that names it holds for each of the 65,536 values. -/
opaque prefixUncategorized : U16

/-- A stream of random words, as far as the spec tells streams apart (R66): after a reseed the stream is a function of
the 32-byte seed alone (item 3); after a (re-)initialisation from entropy it is unspecified (item 4), so each such
initialisation has a number of its own. -/
inductive Stream where
  | entropy (initialisation : Nat)
  | seeded (seed : Vector Byte 32)
  deriving DecidableEq, Repr

/-- The word of a stream after `taken` words were taken from it: a free value (R66: the algorithm is in no source; U3,
N2), assumption log 5. -/
opaque randomWord (stream : Stream) (taken : Nat) : U64

/-- What the clock shows on `clk_us` at power-on, before the first command: a free value (R20), assumption log 7. -/
opaque clkUsAtPowerOn : U64

/-- What the clock shows on `clk_valid` at power-on: a free value (R20), assumption log 7. -/
opaque clkValidAtPowerOn : Bool

/-- What the random source shows on `rng_valid` at power-on: a free value (R20), assumption log 7. -/
opaque rngValidAtPowerOn : Bool

end Sys2Proof.Config
end

