-- ==== Sys2Proof/Syntax.lean ====
section
/-! DEFINITION. Sys2Proof/Syntax.lean: the ten commands of the opcode map (spec/30_encoding.md R39), each with the
operands that the host gives it on the ports of its format (R38). -/

namespace Sys2Proof

/-- A command of the block, one constructor per row of spec/opcode_table.json. GEN has no operand of the host's: what the
clock and the random source answer is part of the run, not of the command (R46). -/
inductive Instr where
  /-- `PACK p, d, t, r`, format P (R49). -/
  | pack (p d : U16) (t r : U64)
  /-- `TOTEXT v`, format V (R52). -/
  | totext (v : U128)
  /-- `FROMTEXT "s"`, format T: the length offered and the bytes on the 32 lanes (R54). -/
  | fromtext (txtLen : Byte) (txtIn : Text)
  /-- `TORAW v`, format V (R55). -/
  | toraw (v : U128)
  /-- `FROMRAW v`, format V (R56). -/
  | fromraw (v : U128)
  /-- `EDITP v, h`, format VH (R58). -/
  | editp (v : U128) (h : U16)
  /-- `SETDD h`, format H (R59). -/
  | setdd (h : U16)
  /-- `SETP h`, format H (R60). -/
  | setp (h : U16)
  /-- `SETD h`, format H (R61). -/
  | setd (h : U16)
  /-- `GEN`, format G (R62). -/
  | gen
  deriving DecidableEq, Repr

end Sys2Proof
end

