-- ==== Sys2Proof/WellFormed.lean ====
section
/-! DEFINITION. Sys2Proof/WellFormed.lean: which terms of Instr are commands that the ports can carry. Every value of
every fixed-width operand is legal (spec/10_state.md R11, spec/30_encoding.md R40); the one check is that FROMTEXT
offers exactly the 32 lanes of `txt_in` (R15, R22). Its `txt_len` is not checked here: any length may be offered (R54). -/

namespace Sys2Proof

/-- The bytes of a FROMTEXT fill the 32 lanes of `txt_in`, no fewer and no more (R15, R22; assumption log 13). -/
def Instr.wellFormed (i : Instr) : Bool :=
  match i with
  | .pack _ _ _ _ => true
  | .totext _ => true
  | .fromtext _ txtIn => txtIn.length == Config.textLen
  | .toraw _ => true
  | .fromraw _ => true
  | .editp _ _ => true
  | .setdd _ => true
  | .setp _ => true
  | .setd _ => true
  | .gen => true

end Sys2Proof
end

