-- ==== Sys2Proof/Decode.lean ====
section
/-! DEFINITION. Sys2Proof/Decode.lean: the host's input ports (spec/10_state.md R15), the decoder that reads a command
from them (spec/30_encoding.md R38 to R42), and the encoder that drives them, written from the same table. -/

namespace Sys2Proof

/-- The input ports that the host drives in a step (R15). The agents' ports and `rst` are in Machine/State.lean. -/
structure Ports where
  op : U4
  valIn : U128
  hIn : U16
  pIn : U16
  dIn : U16
  tsIn : U64
  rndIn : U64
  txtLen : Byte
  txtIn : Lanes
  deriving DecidableEq, Repr

/-- What the decoder reads from the ports: a command, or a reserved opcode, named by its value (R40, R42). -/
inductive Decoded where
  | instr (i : Instr)
  | reserved (op : U4)
  deriving DecidableEq, Repr

/-- The decoder: the whole of `op` selects the command (R39), which takes the ports of its format and no other (R38,
R41); every other value of `op` is reserved (R42). Total on all port values (R40). -/
def decode (p : Ports) : Decoded :=
  if p.op = 0x1#4 then .instr (.pack p.pIn p.dIn p.tsIn p.rndIn)
  else if p.op = 0x2#4 then .instr (.totext p.valIn)
  else if p.op = 0x3#4 then .instr (.fromtext p.txtLen p.txtIn.toList)
  else if p.op = 0x4#4 then .instr (.toraw p.valIn)
  else if p.op = 0x5#4 then .instr (.fromraw p.valIn)
  else if p.op = 0x6#4 then .instr (.editp p.valIn p.hIn)
  else if p.op = 0x8#4 then .instr (.setdd p.hIn)
  else if p.op = 0x9#4 then .instr (.setp p.hIn)
  else if p.op = 0xA#4 then .instr (.setd p.hIn)
  else if p.op = 0xB#4 then .instr .gen
  else .reserved p.op

/-- Whether a value of `op` is one of the six reserved ones (R42). -/
def reservedOp (op : U4) : Bool :=
  op == 0x0#4 || op == 0x7#4 || op == 0xC#4 || op == 0xD#4 || op == 0xE#4 || op == 0xF#4

/-- Every host port at zero, `op` with it: an idle bus, which is no command (R42, D3). -/
def idlePorts : Ports :=
  { op := 0, valIn := 0, hIn := 0, pIn := 0, dIn := 0, tsIn := 0, rndIn := 0, txtLen := 0,
    txtIn := Vector.ofFn fun _ => 0 }

/-- The 32 lanes that offer the bytes `s`: lane `i` carries `s[i]`, and a lane with no byte of `s` carries 0 (R54 lets
such a lane hold anything). Bytes beyond the 32nd are not presented. -/
def lanesOf (s : Text) : Lanes :=
  Vector.ofFn fun i => s.getD i 0

/-- The opcode of a command (R39). -/
def opcode (i : Instr) : U4 :=
  match i with
  | .pack _ _ _ _ => 0x1
  | .totext _ => 0x2
  | .fromtext _ _ => 0x3
  | .toraw _ => 0x4
  | .fromraw _ => 0x5
  | .editp _ _ => 0x6
  | .setdd _ => 0x8
  | .setp _ => 0x9
  | .setd _ => 0xA
  | .gen => 0xB

/-- The encoder: `op` and the ports of the command's format carry the command (R38, R46); the other ports, which the
block ignores (R41), are driven to 0. -/
def encode (i : Instr) : Ports :=
  match i with
  | .pack p d t r => { idlePorts with op := opcode i, pIn := p, dIn := d, tsIn := t, rndIn := r }
  | .totext v => { idlePorts with op := opcode i, valIn := v }
  | .fromtext n s => { idlePorts with op := opcode i, txtLen := n, txtIn := lanesOf s }
  | .toraw v => { idlePorts with op := opcode i, valIn := v }
  | .fromraw v => { idlePorts with op := opcode i, valIn := v }
  | .editp v h => { idlePorts with op := opcode i, valIn := v, hIn := h }
  | .setdd h => { idlePorts with op := opcode i, hIn := h }
  | .setp h => { idlePorts with op := opcode i, hIn := h }
  | .setd h => { idlePorts with op := opcode i, hIn := h }
  | .gen => { idlePorts with op := opcode i }

/-- The length offered for a text of `n` bytes: `min(n, 255)` (R54, D5). -/
def offeredLength (s : Text) : Byte :=
  BitVec.ofNat 8 (min s.length 255)

/-- The command `FROMTEXT "s"` of the assembler syntax, for a text of any length (R46, R54). -/
def fromtextOf (s : Text) : Instr :=
  .fromtext (offeredLength s) (lanesOf s).toList

/-- The ports that carry an instruction of spec/opcode_table.json given as a number: `op` is its bits 3 to 0, and every
operand port is 0. The table gives an instruction no other bit (assumption log 11). -/
def tablePorts (nbits w : Nat) : Ports :=
  { idlePorts with op := BitVec.ofNat 4 (w % 2 ^ nbits) }

/-- The command that the decoder reads from an opcode-table word; none where `op` is reserved. -/
def decodeTableWord (nbits w : Nat) : Option Instr :=
  match decode (tablePorts nbits w) with
  | .instr i => some i
  | .reserved _ => none

end Sys2Proof
end

