-- ==== Sys2Proof/Machine/State.lean ====
section
/-! DEFINITION. Sys2Proof/Machine/State.lean: everything the spec gives the machine (spec/10_state.md), as plain data:
the block's 49 bits, the agents outside it that a run depends on (R19), the response of the last command, and what the
host does next. -/

namespace Sys2Proof.Machine

/-- The status codes of a response (R70). A model has five constructors and no others (U11). -/
inductive Status where
  /-- Code 0: the command completed. -/
  | ok
  /-- Code 1: FROMTEXT of a text that is not 32 characters long (R71). -/
  | invalidLength
  /-- Code 2: FROMTEXT of 32 characters, one of them not hexadecimal (R72). -/
  | invalidFormat
  /-- Code 3: GEN without a clock or a random source, and every command of a halted block (R74). -/
  | fatal
  /-- Code 4: a reserved opcode (R73). -/
  | illegalCommand
  deriving DecidableEq, Repr

/-- The values on the output ports at the end of a command (R16, R44). `none` on a value output says that it carries
nothing (R78; assumption log 8). -/
structure Response where
  status : Status
  valOut : Option U128
  txtOut : Option Text
  rngTake : Bool
  deriving DecidableEq, Repr

/-- The input ports that the clock and the random source drive, less `rng_word`, which `RandomSource` gives (R15). -/
structure AgentPorts where
  clkValid : Bool
  clkUs : U64
  rngValid : Bool
  deriving DecidableEq, Repr

/-- The random source's state (R66): its stream, how many words of it were taken, and, ahead of the stream, words that a
run fixes beforehand (assumption log 5). `renewals` counts initialisations from entropy, so that each begins a stream of
its own. -/
structure RandomSource where
  stream : Config.Stream
  taken : Nat
  upcoming : List U64
  renewals : Nat
  deriving DecidableEq, Repr

/-- One thing the host does (R96): it presents a command, with what the clock and the random source show in that step;
or it asserts `rst` between two steps (R83); or it reseeds the random source, the document's `with_seed` (R68); or it
re-initialises the random source from entropy, as `new()` does (R68). -/
inductive HostAction where
  | command (ports : Ports) (agents : AgentPorts)
  | reset
  | reseed (seed : Vector Byte 32)
  | reinitialise
  deriving DecidableEq, Repr

/-- The state of the machine. The first four fields are the block's whole state (10_state.md); `rng` and `agents` are the
agents outside it (R19); `response` and `pending` are the model's own (assumption logs 1 and 2). -/
structure State where
  /-- `PREFIX`, one-shot (R12). -/
  prefixReg : U16
  /-- `DEVICE_ID`, one-shot (R13). -/
  deviceId : U16
  /-- `DEFAULT_DEVICE_ID` (R14). -/
  defaultDeviceId : U16
  /-- `HALTED` (R17). -/
  halted : Bool
  /-- The response to the last command, if one is pending since reset (R16, R20). -/
  response : Option Response
  /-- What the clock and the random source show on their ports (R15, R67). -/
  agents : AgentPorts
  /-- The random source's state (R66). -/
  rng : RandomSource
  /-- What the host does next, first thing first (R96). -/
  pending : List HostAction
  deriving DecidableEq, Repr

/-- Reasons the machine stops with a fault. There are none: the spec gives every step a response and a next state (R40,
R93, R96), and the halted state is a state of the block, which only reset leaves (R74; assumption log 9). -/
inductive Fault where
  deriving DecidableEq, Repr

/-- Reasons the machine refuses an instruction. -/
inductive Refusal where
  /-- An instruction that has no meaning in the model yet; raised by an arm of `exec` only, and by none now. Safe: the
  machine stops where the hardware goes on. -/
  | notModelled (mnemonic : String)
  deriving DecidableEq, Repr

/-- The machine at power-on (R20, R83): the registers as `new()` leaves them, not halted, no response pending, no
command presented (R85), and the agents unspecified (R20, R84; assumption logs 5 and 7). -/
def State.reset : State :=
  { prefixReg := Config.prefixUncategorized
    deviceId := Config.deviceIdReset
    defaultDeviceId := Config.deviceIdReset
    halted := false
    response := none
    agents :=
      { clkValid := Config.clkValidAtPowerOn, clkUs := Config.clkUsAtPowerOn,
        rngValid := Config.rngValidAtPowerOn }
    rng := { stream := .entropy 0, taken := 0, upcoming := [], renewals := 0 }
    pending := [] }

end Sys2Proof.Machine
end

