-- ==== Sys2Proof/Machine/Operands.lean ====
section
/-! DEFINITION. Sys2Proof/Machine/Operands.lean: the pure functions on operands and values: operand assembly and packing
(spec/30_encoding.md R43, spec/40_pack.md R48), field extraction (R35), the text form (R36, R37, R51, R53) and prefix
replacement (R57). None reads or writes state. -/

namespace Sys2Proof.Machine

/-- `place(x, width, shift)`: zero-extend, mask to the field's width, shift to the field's offset (R43). -/
def place {w : Nat} (x : BitVec w) (width shift : Nat) : U128 :=
  (x.setWidth 128 &&& BitVec.ofNat 128 (2 ^ width - 1)) <<< shift

/-- The packing function (R48). -/
def pack (p d : U16) (t r : U64) : U128 :=
  (p.setWidth 128 <<< Config.prefixShift)
    ||| (Config.version.setWidth 128 <<< Config.versionShift)
    ||| (d.setWidth 128 <<< Config.deviceShift)
    ||| ((t &&& Config.mask48).setWidth 128 <<< Config.timestampShift)
    ||| (r &&& Config.mask44).setWidth 128

/-- `prefix_of(v) = v[127:112]` (R35). -/
def prefixOf (v : U128) : U16 := v.extractLsb' Config.prefixShift 16

/-- `version_of(v) = v[111:108]` (R35). -/
def versionOf (v : U128) : U4 := v.extractLsb' Config.versionShift 4

/-- `device_of(v) = v[107:92]` (R35). -/
def deviceOf (v : U128) : U16 := v.extractLsb' Config.deviceShift 16

/-- `timestamp_of(v) = v[91:44]` (R35). -/
def timestampOf (v : U128) : BitVec 48 := v.extractLsb' Config.timestampShift 48

/-- `random_of(v) = v[43:0]` (R35). -/
def randomOf (v : U128) : BitVec 44 := v.extractLsb' Config.randomShift 44

/-- `edit_prefix(v, p)` (R57). -/
def editPrefix (v : U128) (p : U16) : U128 :=
  (v &&& Config.prefixClear) ||| (p.setWidth 128 <<< Config.prefixShift)

/-- `hexchar`: the sixteen lowercase digits as ASCII bytes (R36). -/
def hexchar (n : U4) : Byte :=
  if n < 10#4 then 0x30#8 + n.setWidth 8 else 0x61#8 + (n.setWidth 8 - 10#8)

/-- `hexval`: the digit a byte stands for, in either case of letters (R37, D6; assumption log 12). -/
def hexval (c : Byte) : Option U4 :=
  if 0x30#8 ≤ c ∧ c ≤ 0x39#8 then some ((c - 0x30#8).setWidth 4)
  else if 0x61#8 ≤ c ∧ c ≤ 0x66#8 then some ((c - 0x61#8 + 10#8).setWidth 4)
  else if 0x41#8 ≤ c ∧ c ≤ 0x46#8 then some ((c - 0x41#8 + 10#8).setWidth 4)
  else none

/-- Nibble `v[127-4i : 124-4i]`, the one that character `i` of the text stands for (R23). -/
def nibble (v : U128) (i : Nat) : U4 := v.extractLsb' (124 - 4 * i) 4

/-- `to_text(v)`: 32 lowercase digits, the most significant first (R51). -/
def toText (v : U128) : Text :=
  (List.range 32).map fun i => hexchar (nibble v i)

/-- Every byte is a hexadecimal digit (R53). -/
def allHex (s : Text) : Bool :=
  s.all fun c => (hexval c).isSome

/-- The sum of the digits of `s`, the digit that `k` bytes follow shifted left by `4 * k` (R53: `4 * (31 - i)` for
character `i` of 32). A byte that is no digit adds nothing; `parse` asks `allHex` first. -/
def hexSum (s : Text) : U128 :=
  match s with
  | [] => 0
  | c :: rest => ((hexval c).getD 0).setWidth 128 <<< (4 * rest.length) + hexSum rest

/-- The three outcomes of `from_text` (R8, R53). -/
inductive Parsed where
  | value (v : U128)
  | invalidLength
  | invalidFormat
  deriving DecidableEq, Repr

/-- `from_text` for a text that offers `lengthOk` as its length and `s` as its bytes: the length is tested before the
characters are looked at (R53, R76). -/
def parse (lengthOk : Bool) (s : Text) : Parsed :=
  if lengthOk = false then .invalidLength
  else if allHex s = false then .invalidFormat
  else .value (hexSum s)

/-- `from_text(s)` on a text of any length (R53). -/
def fromText (s : Text) : Parsed :=
  parse (s.length == Config.textLen) s

/-- A text with each `A` to `F` replaced by `a` to `f` (R95). -/
def lowerHex (s : Text) : Text :=
  s.map fun c => if 0x41#8 ≤ c ∧ c ≤ 0x46#8 then c + 0x20#8 else c

end Sys2Proof.Machine
end

