-- ==== Sys2Proof/Machine/Flags.lean ====
section
/-! DEFINITION. Sys2Proof/Machine/Flags.lean: `HALTED`, the only flag the block holds (spec/10_state.md R17), and the
status numbers (spec/60_exceptions.md R70). There are no condition codes (R18): truncation gives no signal. -/

namespace Sys2Proof.Machine

/-- The number of a status on `status[2:0]` (R70). -/
def statusCode (x : Status) : BitVec 3 :=
  match x with
  | .ok => 0
  | .invalidLength => 1
  | .invalidFormat => 2
  | .fatal => 3
  | .illegalCommand => 4

/-- `HALTED` after an error is raised: set by `Fatal`, kept by every other error, cleared by none (R17, R77). -/
def haltedAfter (e : Status) (halted : Bool) : Bool :=
  halted || e == .fatal

end Sys2Proof.Machine
end

