-- ==== Sys2Proof/Machine/Ops.lean ====
section
/-! DEFINITION. Sys2Proof/Machine/Ops.lean: the named operations over the state: register writes, responses, raising an
error (spec/60_exceptions.md R77), the halt (R74), reset (spec/70_reset_and_hazards.md R83), the random source's
transitions (spec/42_generator.md R66), and taking up the host's next action. -/

namespace Sys2Proof.Machine

/-- `PREFIX <- h`, and nothing else (R12). -/
def State.writePrefix (s : State) (h : U16) : State := { s with prefixReg := h }

/-- `DEVICE_ID <- h`, and nothing else (R13). -/
def State.writeDeviceId (s : State) (h : U16) : State := { s with deviceId := h }

/-- `DEFAULT_DEVICE_ID <- h`, and nothing else (R14). -/
def State.writeDefaultDeviceId (s : State) (h : U16) : State := { s with defaultDeviceId := h }

/-- Drive the output ports at the end of a command (R16). -/
def State.respond (s : State) (r : Response) : State := { s with response := some r }

/-- The output port `rng_take`: 0 when no response is pending (R16, R20). -/
def State.rngTakeOut (s : State) : Bool :=
  match s.response with
  | some r => r.rngTake
  | none => false

/-- `OK` with a value on `val_out`, no word taken (R44). -/
def okValue (v : U128) : Response :=
  { status := .ok, valOut := some v, txtOut := none, rngTake := false }

/-- `OK` with a text on `txt_out`, no word taken (R44). -/
def okText (t : Text) : Response :=
  { status := .ok, valOut := none, txtOut := some t, rngTake := false }

/-- `OK` with neither output driven: the set commands (R44). -/
def okDone : Response :=
  { status := .ok, valOut := none, txtOut := none, rngTake := false }

/-- `OK` of a GEN that completes: a value, and `rng_take = 1` (R44, R62). -/
def okGenerated (v : U128) : Response :=
  { status := .ok, valOut := some v, txtOut := none, rngTake := true }

/-- The response of an error: a status, no value on any output, no word taken (R77, R78). -/
def failed (e : Status) : Response :=
  { status := e, valOut := none, txtOut := none, rngTake := false }

/-- Raising an error, the one operation for all four: the whole effect is the response and, for `Fatal`, the HALTED flag;
there is no handler, no vector and nothing saved (R77). -/
def State.raise (s : State) (e : Status) : State :=
  State.respond { s with halted := haltedAfter e s.halted } (failed e)

/-- A command's effect, under the first rule of priority: a halted block answers `Fatal` to every command and changes
nothing (R74 item 2, R76 item 1). -/
def whenRunning (s : State) (effect : State) : Host.Outcome State Fault Refusal :=
  if s.halted = true then .next (s.raise .fatal) else .next effect

/-- The response to a parse: the value, or the recoverable error (R54, R71, R72). -/
def State.respondParsed (s : State) (x : Parsed) : State :=
  match x with
  | .value v => s.respond (okValue v)
  | .invalidLength => s.raise .invalidLength
  | .invalidFormat => s.raise .invalidFormat

/-- A reserved opcode (R42, R73). -/
def illegalCommand (s : State) : Host.Outcome State Fault Refusal :=
  whenRunning s (s.raise .illegalCommand)

/-- The word that the random source shows on `rng_word`: the next one fixed beforehand, else the next of its stream
(R66 item 1; assumption log 5). -/
def RandomSource.word (g : RandomSource) : U64 :=
  match g.upcoming with
  | w :: _ => w
  | [] => Config.randomWord g.stream g.taken

/-- The random source after one word is taken (R66 item 1). -/
def RandomSource.advance (g : RandomSource) : RandomSource :=
  match g.upcoming with
  | _ :: rest => { g with upcoming := rest }
  | [] => { g with taken := g.taken + 1 }

/-- The random source after a reseed: a function of the seed, nothing taken (R66 item 3, R68). The count of
initialisations stays, so that a later one is still new. -/
def RandomSource.reseed (g : RandomSource) (seed : Vector Byte 32) : RandomSource :=
  { g with stream := .seeded seed, taken := 0, upcoming := [] }

/-- The random source after an initialisation from entropy: an unspecified stream, a new one each time (R66 item 4, R68). -/
def RandomSource.reinitialise (g : RandomSource) : RandomSource :=
  { stream := .entropy (g.renewals + 1), taken := 0, upcoming := [], renewals := g.renewals + 1 }

/-- `rng_take = 1`: the random source advances by one word (R62, R66). -/
def State.takeWord (s : State) : State := { s with rng := s.rng.advance }

/-- The host reseeds the random source; all other state is unchanged (R68). -/
def State.reseed (s : State) (seed : Vector Byte 32) : State := { s with rng := s.rng.reseed seed }

/-- The host re-initialises the random source from entropy; all other state is unchanged (R68). -/
def State.reinitialise (s : State) : State := { s with rng := s.rng.reinitialise }

/-- The host asserts `rst`: the block's registers as `new()` leaves them, HALTED cleared, no response pending; the random
source and the clock are not touched (R20, R83, R84). The only way out of the halt. -/
def State.resetBlock (s : State) : State :=
  { s with
    prefixReg := Config.prefixUncategorized
    deviceId := Config.deviceIdReset
    defaultDeviceId := Config.deviceIdReset
    halted := false
    response := none }

/-- The host's next action is taken up. -/
def State.consume (s : State) (rest : List HostAction) : State := { s with pending := rest }

/-- The agents' ports show their values of this step (R15, R26). -/
def State.sample (s : State) (a : AgentPorts) : State := { s with agents := a }

/-- The block when the host presents nothing: it waits, and nothing changes (R10, R85; assumption log 2). -/
def State.idle (s : State) : State := s

/-- The ports with which the next instruction is presented when a test places it: the clock and the random source
answer (assumption log 3). -/
def placedAgents : AgentPorts :=
  { clkValid := true, clkUs := 0, rngValid := true }

end Sys2Proof.Machine
end

