-- ==== Sys2Proof/Machine/Generator.lean ====
section
/-! DEFINITION. Sys2Proof/Machine/Generator.lean: the three set commands and GEN (spec/42_generator.md R59 to R63). -/

namespace Sys2Proof.Machine

/-- `SETDD h` (R59): `DEVICE_ID` is not touched. -/
def execSetdd (h : U16) (s : State) : Host.Outcome State Fault Refusal :=
  whenRunning s ((s.writeDefaultDeviceId h).respond okDone)

/-- `SETP h` (R60). -/
def execSetp (h : U16) (s : State) : Host.Outcome State Fault Refusal :=
  whenRunning s ((s.writePrefix h).respond okDone)

/-- `SETD h` (R61): `DEFAULT_DEVICE_ID` is not touched. -/
def execSetd (h : U16) (s : State) : Host.Outcome State Fault Refusal :=
  whenRunning s ((s.writeDeviceId h).respond okDone)

/-- The one-shot reset (R63): `PREFIX` to the sentinel, `DEVICE_ID` to the default, unconditionally. -/
def State.oneShotReset (s : State) : State :=
  (s.writePrefix Config.prefixUncategorized).writeDeviceId s.defaultDeviceId

/-- Steps 1 to 4 of GEN: the identifier of the registers, the clock's count and the random source's word, all as they
stand at the start of the step (R62). -/
def State.generated (s : State) : U128 :=
  pack s.prefixReg s.deviceId (s.agents.clkUs &&& Config.mask48) (s.rng.word &&& Config.mask44)

/-- `GEN` (R62): the clock is tested first, then the random source; without either the block halts, nothing is drawn and
the registers are kept (R74 item 1). -/
def execGen (s : State) : Host.Outcome State Fault Refusal :=
  whenRunning s
    (if s.agents.clkValid = false then s.raise .fatal
     else if s.agents.rngValid = false then s.raise .fatal
     else s.oneShotReset.takeWord.respond (okGenerated s.generated))

end Sys2Proof.Machine
end

