-- ==== Sys2Proof/Machine/Identifier.lean ====
section
/-! DEFINITION. Sys2Proof/Machine/Identifier.lean: the five identifier commands (spec/41_identifier.md), all stateless. -/

namespace Sys2Proof.Machine

/-- `TOTEXT v` (R52). -/
def execTotext (v : U128) (s : State) : Host.Outcome State Fault Refusal :=
  whenRunning s (s.respond (okText (toText v)))

/-- `FROMTEXT "s"` (R54): `txt_len` is tested before the lanes are looked at (R76). -/
def execFromtext (txtLen : Byte) (txtIn : Text) (s : State) : Host.Outcome State Fault Refusal :=
  whenRunning s (s.respondParsed (parse (txtLen == 32#8) txtIn))

/-- `TORAW v` (R55). -/
def execToraw (v : U128) (s : State) : Host.Outcome State Fault Refusal :=
  whenRunning s (s.respond (okValue v))

/-- `FROMRAW v` (R56): no check of the layout. -/
def execFromraw (v : U128) (s : State) : Host.Outcome State Fault Refusal :=
  whenRunning s (s.respond (okValue v))

/-- `EDITP v, h` (R58): the register `PREFIX` is neither read nor written. -/
def execEditp (v : U128) (h : U16) (s : State) : Host.Outcome State Fault Refusal :=
  whenRunning s (s.respond (okValue (editPrefix v h)))

end Sys2Proof.Machine
end

