-- ==== Sys2Proof/Machine/Pack.lean ====
section
/-! DEFINITION. Sys2Proof/Machine/Pack.lean: the PACK command (spec/40_pack.md R49). -/

namespace Sys2Proof.Machine

/-- `PACK p, d, t, r` (R49): no register is read or written. -/
def execPack (p d : U16) (t r : U64) (s : State) : Host.Outcome State Fault Refusal :=
  whenRunning s (s.respond (okValue (pack p d t r)))

end Sys2Proof.Machine
end

