-- ==== Sys2Proof/Machine/Dispatch.lean ====
section
/-! DEFINITION. Sys2Proof/Machine/Dispatch.lean: the meaning of each command, one arm per constructor of Instr. -/

namespace Sys2Proof.Machine

def exec (i : Instr) (s : State) : Host.Outcome State Fault Refusal :=
  match i with
  -- packing (spec/40_pack.md)
  | .pack p d t r => Sys2Proof.Machine.execPack p d t r s
  -- identifier conversions (spec/41_identifier.md)
  | .totext v => Sys2Proof.Machine.execTotext v s
  | .fromtext txtLen txtIn => Sys2Proof.Machine.execFromtext txtLen txtIn s
  | .toraw v => Sys2Proof.Machine.execToraw v s
  | .fromraw v => Sys2Proof.Machine.execFromraw v s
  | .editp v h => Sys2Proof.Machine.execEditp v h s
  -- the generator front end (spec/42_generator.md)
  | .setdd h => Sys2Proof.Machine.execSetdd h s
  | .setp h => Sys2Proof.Machine.execSetp h s
  | .setd h => Sys2Proof.Machine.execSetd h s
  | .gen => Sys2Proof.Machine.execGen s

end Sys2Proof.Machine
end

