-- ==== Sys2Proof/Machine/Step.lean ====
section
/-! DEFINITION. Sys2Proof/Machine/Step.lean: one step of the machine: the host's next action, or waiting for one
(spec/70_reset_and_hazards.md R96). A command is one atomic step of the block (spec/20_memory.md R26). -/

namespace Sys2Proof.Machine

/-- One step: take up the host's next action. A command is decoded from the host's ports and executed with the agents'
ports of that step; a reserved opcode answers `IllegalCommand` (R40); the other actions act between two commands. -/
def step (s : State) : Host.Outcome State Fault Refusal :=
  match s.pending with
  | [] => .next s.idle
  | .command ports agents :: rest =>
    match decode ports with
    | .instr i => exec i ((s.consume rest).sample agents)
    | .reserved _ => illegalCommand ((s.consume rest).sample agents)
  | .reset :: rest => .next (s.consume rest).resetBlock
  | .reseed seed :: rest => .next ((s.consume rest).reseed seed)
  | .reinitialise :: rest => .next (s.consume rest).reinitialise

/-- `s` with an instruction of the opcode table presented as the host's next action: its opcode on `op`, every operand
port 0, the clock and the random source answering (assumption log 3). -/
def State.withFetchWord (s : State) (nbits w : Nat) : State :=
  { s with pending := .command (tablePorts nbits w) placedAgents :: s.pending }

end Sys2Proof.Machine
end

