-- ==== Sys2Proof/Machine/Assembler.lean ====
section
/-! DEFINITION. Sys2Proof/Machine/Assembler.lean: commands as the host presents them, and the four pseudo-instructions
(spec/30_encoding.md R46, R47). -/

namespace Sys2Proof.Machine

/-- The host presents a command on its ports, in a step in which the agents show `agents` (R46). -/
def present (i : Instr) (agents : AgentPorts) : HostAction :=
  .command (encode i) agents

/-- The mnemonic of a command (R39, R46). -/
def mnemonic (i : Instr) : String :=
  match i with
  | .pack _ _ _ _ => "PACK"
  | .totext _ => "TOTEXT"
  | .fromtext _ _ => "FROMTEXT"
  | .toraw _ => "TORAW"
  | .fromraw _ => "FROMRAW"
  | .editp _ _ => "EDITP"
  | .setdd _ => "SETDD"
  | .setp _ => "SETP"
  | .setd _ => "SETD"
  | .gen => "GEN"

/-- The braces of `GEN {clk=c, rng=w}`: which agent is available, and the clock's count (R46). The word `w` is the
random source's to show (`State.rng`). Where `clk=none` no command looks at `clk_us`. -/
def genAnswers (clk : Option U64) (rngAvailable : Bool) : AgentPorts :=
  { clkValid := clk.isSome, clkUs := clk.getD 0, rngValid := rngAvailable }

/-- `RESET`: one assertion of `rst`, not a command (R47). -/
def pseudoReset : List HostAction :=
  [.reset]

/-- `GENWITH p, d`: SETP, SETD, GEN; only the GEN looks at the agents' ports (R47). -/
def pseudoGenwith (p d : U16) (agents : AgentPorts) : List HostAction :=
  [present (.setp p) agents, present (.setd d) agents, present .gen agents]

/-- `GENP p`: SETP, GEN (R47). -/
def pseudoGenp (p : U16) (agents : AgentPorts) : List HostAction :=
  [present (.setp p) agents, present .gen agents]

/-- `RETEXT "s"`, first command: FROMTEXT of the text (R47). -/
def retextFirst (s : Text) : Instr :=
  fromtextOf s

/-- `RETEXT "s"`, second command: TOTEXT of the value returned, if the first answered `OK` (R47). -/
def retextSecond (r : Response) : Option Instr :=
  if r.status = .ok then r.valOut.map .totext else none

end Sys2Proof.Machine
end

