-- ==== Sys2Proof/Safety.lean ====
section
/-! DEFINITION. Sys2Proof/Safety.lean: what counts as a good state, in the terms the statements use. HALTED is the
spec's fault mark: a halted state is never a good end of a run (spec/10_state.md R17, spec/60_exceptions.md R74). -/

namespace Sys2Proof.Machine

/-- A byte is one of the sixteen lowercase digits (R36). -/
def lowercaseHex (c : Byte) : Prop :=
  (0x30 ≤ c.toNat ∧ c.toNat ≤ 0x39) ∨ (0x61 ≤ c.toNat ∧ c.toNat ≤ 0x66)

/-- What a response may look like: a status other than `OK` comes with no value, no text and no word taken (R77, R78);
at most one of the two value outputs is driven (R44); a text is 32 lowercase digits (R36); a word is taken only with an
identifier of version code 1 (R34, R44, R62). -/
structure Response.Coherent (r : Response) : Prop where
  errorCarriesNothing : r.status ≠ .ok → r.valOut = none ∧ r.txtOut = none ∧ r.rngTake = false
  oneOutput : r.valOut = none ∨ r.txtOut = none
  textIsCanonical : ∀ t, r.txtOut = some t → t.length = 32 ∧ ∀ c ∈ t, lowercaseHex c
  takeMeansIdentifier : r.rngTake = true → ∃ v, r.valOut = some v ∧ versionOf v = 1#4

/-- The invariant that every step keeps: the block is halted exactly when its last response was `Fatal` (R74), and the
last response is coherent. -/
structure State.Inv (s : State) : Prop where
  haltedIffFatal : s.halted = true ↔ s.response.map Response.status = some .fatal
  responseCoherent : ∀ r, s.response = some r → r.Coherent

/-! ### Terms of the statements

The spec's own formulas over natural numbers, written apart from the model's bit-vector definitions. -/

/-- `pack` as a number: p*2^112 + 2^108 + d*2^92 + (t mod 2^48)*2^44 + (r mod 2^44) (R48). -/
def packedNumber (p d : U16) (t r : U64) : Nat :=
  p.toNat * 2 ^ 112 + 2 ^ 108 + d.toNat * 2 ^ 92 + (t.toNat % 2 ^ 48) * 2 ^ 44 + r.toNat % 2 ^ 44

/-- The character code of a digit: 0x30 to 0x39, then 0x61 to 0x66 (R36). -/
def digitCode (n : Nat) : Nat :=
  if n < 10 then 0x30 + n else 0x61 + (n - 10)

/-- The digit of a character code, in the three ranges of the table, and none for every other code (R37). -/
def digitValue (c : Nat) : Option Nat :=
  if 0x30 ≤ c ∧ c ≤ 0x39 then some (c - 0x30)
  else if 0x61 ≤ c ∧ c ≤ 0x66 then some (c - 0x61 + 10)
  else if 0x41 ≤ c ∧ c ≤ 0x46 then some (c - 0x41 + 10)
  else none

/-- The lowercase form of a character code: 0x41 to 0x46 become 0x61 to 0x66 (R95). -/
def lowerCode (c : Nat) : Nat :=
  if 0x41 ≤ c ∧ c ≤ 0x46 then c + 0x20 else c

/-- The response to a text, by the outcome of `from_text` (R54, R70, R78). -/
def parsedResponse (x : Parsed) : Response :=
  match x with
  | .value v => ⟨.ok, some v, none, false⟩
  | .invalidLength => ⟨.invalidLength, none, none, false⟩
  | .invalidFormat => ⟨.invalidFormat, none, none, false⟩

/-- Two settings of the host's ports agree on `op` and on the ports of its format (R38). -/
def agreeOnFormat (p q : Ports) : Prop :=
  p.op = q.op
    ∧ (p.op = 0x1 → p.pIn = q.pIn ∧ p.dIn = q.dIn ∧ p.tsIn = q.tsIn ∧ p.rndIn = q.rndIn)
    ∧ (p.op = 0x2 ∨ p.op = 0x4 ∨ p.op = 0x5 ∨ p.op = 0x6 → p.valIn = q.valIn)
    ∧ (p.op = 0x3 → p.txtLen = q.txtLen ∧ p.txtIn = q.txtIn)
    ∧ (p.op = 0x6 ∨ p.op = 0x8 ∨ p.op = 0x9 ∨ p.op = 0xA → p.hIn = q.hIn)

end Sys2Proof.Machine
end

