-- ==== Sys2Proof/Certificates/Slice0/Obligations.lean ====
section
/-! DEFINITION. Sys2Proof/Certificates/Slice0/Obligations.lean: the statements for the provers. Each says which rule of
spec/ it formalises; a response is written ⟨status, val_out, txt_out, rng_take⟩. -/

open Sys2Proof Sys2Proof.Machine

/-! ### The pure functions -/

/-- R48: `pack` is the formula, and bit by bit the five fields. -/
def Obligations.PackPlacesFields : Prop :=
  ∀ (p d : U16) (t r : U64),
    pack p d t r =
        ((p.setWidth 128 <<< 112) ||| (1#128 <<< 108) ||| (d.setWidth 128 <<< 92)
          ||| ((t &&& 0xFFFFFFFFFFFF#64).setWidth 128 <<< 44) ||| (r &&& 0xFFFFFFFFFFF#64).setWidth 128)
      ∧ (pack p d t r).extractLsb' 112 16 = p
      ∧ (pack p d t r).extractLsb' 108 4 = 1#4
      ∧ (pack p d t r).extractLsb' 92 16 = d
      ∧ (pack p d t r).extractLsb' 44 48 = t.extractLsb' 0 48
      ∧ (pack p d t r).extractLsb' 0 44 = r.extractLsb' 0 44

/-- The number that `pack` is: the spec's own inference, "[derived: from the formula and R33, disjoint fields make `|`
equal `+`]" in 40_pack.md. -/
def Obligations.PackIsTheSumOfItsFields : Prop :=
  ∀ (p d : U16) (t r : U64), (pack p d t r).toNat = packedNumber p d t r

/-- R50 laws 1 and 2: read-back through the field functions, and truncation rather than overflow into a neighbour. -/
def Obligations.PackReadsBackAndTruncates : Prop :=
  ∀ (p d : U16) (t r : U64),
    (prefixOf (pack p d t r) = p ∧ versionOf (pack p d t r) = 1#4 ∧ deviceOf (pack p d t r) = d
        ∧ (timestampOf (pack p d t r)).toNat = t.toNat % 2 ^ 48
        ∧ (randomOf (pack p d t r)).toNat = r.toNat % 2 ^ 44)
      ∧ pack p d t r = pack p d (t &&& 0xFFFFFFFFFFFF#64) (r &&& 0xFFFFFFFFFFF#64)
      ∧ (∀ (k : Nat) (t' : U64), t'.toNat = t.toNat + k * 2 ^ 48 → pack p d t' r = pack p d t r)
      ∧ (∀ (k : Nat) (r' : U64), r'.toNat = r.toNat + k * 2 ^ 44 → pack p d t r' = pack p d t r)

/-- R50 law 3: changing one operand changes only that operand's field. -/
def Obligations.PackFieldsAreIndependent : Prop :=
  ∀ (p p' d d' : U16) (t t' r r' : U64),
    pack p d t r ^^^ pack p' d t r = (p ^^^ p').setWidth 128 <<< 112
      ∧ pack p d t r ^^^ pack p d' t r = (d ^^^ d').setWidth 128 <<< 92
      ∧ pack p d t r ^^^ pack p d t' r = ((t ^^^ t') &&& 0xFFFFFFFFFFFF#64).setWidth 128 <<< 44
      ∧ pack p d t r ^^^ pack p d t r' = ((r ^^^ r') &&& 0xFFFFFFFFFFF#64).setWidth 128

/-- R50 law 4: injectivity on operands in range. -/
def Obligations.PackInjectiveInRange : Prop :=
  ∀ (p p' d d' : U16) (t t' r r' : U64),
    t.toNat < 2 ^ 48 → t'.toNat < 2 ^ 48 → r.toNat < 2 ^ 44 → r'.toNat < 2 ^ 44 →
      pack p d t r = pack p' d' t' r' → p = p' ∧ d = d' ∧ t = t' ∧ r = r'

/-- R50 law 5: a packed value is at least 2^108, and never 0; the least is `pack(0,0,0,0)` = 2^108. -/
def Obligations.PackIsNeverZero : Prop :=
  (∀ (p d : U16) (t r : U64), 2 ^ 108 ≤ (pack p d t r).toNat ∧ pack p d t r ≠ 0)
    ∧ (pack 0 0 0 0).toNat = 2 ^ 108

/-- R50 law 6: values sort by prefix, then device id, then truncated timestamp, then random. -/
def Obligations.PackSortsFieldByField : Prop :=
  ∀ (p p' d d' : U16) (t t' r r' : U64),
    (pack p d t r).toNat < (pack p' d' t' r').toNat ↔
      p.toNat < p'.toNat ∨ (p = p' ∧ (d.toNat < d'.toNat ∨ (d = d' ∧
        (t.toNat % 2 ^ 48 < t'.toNat % 2 ^ 48 ∨ (t.toNat % 2 ^ 48 = t'.toNat % 2 ^ 48
          ∧ r.toNat % 2 ^ 44 < r'.toNat % 2 ^ 44)))))

/-- R43, R33: the five placed operands occupy pairwise disjoint bits, whatever their values, so that combining them with
`|` equals adding them, and the two are the packed value. -/
def Obligations.PlacedOperandsAddWithoutCarry : Prop :=
  ∀ (p d : U16) (t r : U64),
    pack p d t r = place p 16 112 + place 1#4 4 108 + place d 16 92 + place t 48 44 + place r 44 0
      ∧ pack p d t r = place p 16 112 ||| place 1#4 4 108 ||| place d 16 92 ||| place t 48 44 ||| place r 44 0
      ∧ place p 16 112 &&& place 1#4 4 108 = 0 ∧ place p 16 112 &&& place d 16 92 = 0
      ∧ place p 16 112 &&& place t 48 44 = 0 ∧ place p 16 112 &&& place r 44 0 = 0
      ∧ place 1#4 4 108 &&& place d 16 92 = 0 ∧ place 1#4 4 108 &&& place t 48 44 = 0
      ∧ place 1#4 4 108 &&& place r 44 0 = 0
      ∧ place d 16 92 &&& place t 48 44 = 0 ∧ place d 16 92 &&& place r 44 0 = 0
      ∧ place t 48 44 &&& place r 44 0 = 0

/-- R36, R37: the two digit tables, by the numbers of the characters. That the numbers are ASCII codes is the spec's
general knowledge K1, and that `A` to `F` count on input its decision D6 (assumption log 12). -/
def Obligations.HexDigitTables : Prop :=
  (∀ n : U4, (hexchar n).toNat = digitCode n.toNat)
    ∧ (∀ c : Byte, (hexval c).map BitVec.toNat = digitValue c.toNat)

/-- R51: 32 characters, character `i` the digit of bits 127-4i down to 124-4i. -/
def Obligations.ToTextDigits : Prop :=
  ∀ v : U128, (toText v).length = 32
    ∧ ∀ i < 32, (toText v)[i]? = some (BitVec.ofNat 8 (digitCode (v.extractLsb' (124 - 4 * i) 4).toNat))

/-- Two different values have two different texts: the spec's own inference, "[derived: each nibble maps to a distinct
character]" in 41_identifier.md. -/
def Obligations.DistinctValuesHaveDistinctTexts : Prop :=
  ∀ v w : U128, toText v = toText w → v = w

/-- R53: the three outcomes, the length tested first; the value is the sum of the shifted digits, and its nibbles are the
digits. -/
def Obligations.FromTextOutcomes : Prop :=
  ∀ s : Text,
    (s.length ≠ 32 → fromText s = .invalidLength)
      ∧ (s.length = 32 → (∃ c ∈ s, hexval c = none) → fromText s = .invalidFormat)
      ∧ (s.length = 32 → (∀ c ∈ s, hexval c ≠ none) →
          ∃ v : U128, fromText s = .value v
            ∧ v.toNat = ((List.range 32).map fun i =>
                ((hexval (s.getD i 0)).getD 0).toNat * 2 ^ (4 * (31 - i))).sum
            ∧ ∀ i < 32, hexval (s.getD i 0) = some (v.extractLsb' (124 - 4 * i) 4))

/-- R95: the round trip of every value. -/
def Obligations.ValuesSurviveTheRoundTrip : Prop :=
  ∀ v : U128, fromText (toText v) = .value v

/-- The other direction lowers `A` to `F`, and gives the text back exactly when it has none: the spec's own inference,
"[derived: from rules R51 and R53 and R36 and R37]" in 41_identifier.md, which rests on its decision D6. -/
def Obligations.TextsComeBackLowered : Prop :=
  ∀ (s : Text) (v : U128), fromText s = .value v →
    (toText v).map BitVec.toNat = s.map (fun c => lowerCode c.toNat)
      ∧ (toText v = s ↔ ∀ c ∈ s, ¬ (0x41 ≤ c.toNat ∧ c.toNat ≤ 0x46))

/-- R57: only bits 127 to 112 change, and they become the new prefix. -/
def Obligations.EditPrefixReplacesTopField : Prop :=
  ∀ (v : U128) (p : U16),
    editPrefix v p = ((v &&& 0xFFFFFFFFFFFFFFFFFFFFFFFFFFFF#128) ||| (p.setWidth 128 <<< 112))
      ∧ (editPrefix v p).extractLsb' 112 16 = p
      ∧ (editPrefix v p).extractLsb' 0 112 = v.extractLsb' 0 112

/-- R58: the laws of repeated editing and of editing a packed value (both the spec's own inferences, "[derived]" in
41_identifier.md), and that the old prefix gives the value back. -/
def Obligations.EditPrefixLaws : Prop :=
  (∀ (v : U128) (p q : U16), editPrefix (editPrefix v p) q = editPrefix v q)
    ∧ (∀ (p q d : U16) (t r : U64), editPrefix (pack p d t r) q = pack q d t r)
    ∧ (∀ v : U128, editPrefix v (v.extractLsb' 112 16) = v)

/-! ### The commands in a running block: where each completes, with its result and its frame -/

/-- R49: PACK completes with the packed value and changes the response only. -/
def Obligations.PackCommandAnswers : Prop :=
  ∀ (p d : U16) (t r : U64) (s : State), s.halted = false →
    ∃ v : U128, v.toNat = packedNumber p d t r
      ∧ exec (.pack p d t r) s = .next { s with response := some ⟨.ok, some v, none, false⟩ }

/-- R52: TOTEXT completes with the 32 digits and changes the response only. -/
def Obligations.TotextCommandAnswers : Prop :=
  ∀ (v : U128) (s : State), s.halted = false →
    ∃ x : Text, x.length = 32
      ∧ (∀ i < 32, (x[i]?).map BitVec.toNat = some (digitCode (v.extractLsb' (124 - 4 * i) 4).toNat))
      ∧ exec (.totext v) s = .next { s with response := some ⟨.ok, none, some x, false⟩ }

/-- R54: FROMTEXT of a length of 32 and 32 digits completes with their value and changes the response only. -/
def Obligations.FromtextCommandAnswers : Prop :=
  ∀ (x : Text) (s : State), s.halted = false → x.length = 32 → (∀ c ∈ x, digitValue c.toNat ≠ none) →
    ∃ v : U128, (∀ i < 32, digitValue (x.getD i 0).toNat = some (v.extractLsb' (124 - 4 * i) 4).toNat)
      ∧ exec (.fromtext 32 x) s = .next { s with response := some ⟨.ok, some v, none, false⟩ }

/-- R71: a length other than 32 is InvalidLength, whatever the lanes hold; nothing but the response changes. -/
def Obligations.FromtextWrongLength : Prop :=
  ∀ (n : Byte) (x : Text) (s : State), s.halted = false → n.toNat ≠ 32 →
    exec (.fromtext n x) s = .next { s with response := some ⟨.invalidLength, none, none, false⟩ }

/-- R72: a length of 32 and some byte on which `hexval` is none is InvalidFormat; nothing but the response changes. -/
def Obligations.FromtextBadDigit : Prop :=
  ∀ (x : Text) (s : State), s.halted = false → (∃ c ∈ x, hexval c = none) →
    exec (.fromtext 32 x) s = .next { s with response := some ⟨.invalidFormat, none, none, false⟩ }

/-- R54: for the text `x` that the host presents, FROMTEXT answers as `from_text(x)`, whatever the lanes beyond the text
hold and however long the text is. -/
def Obligations.PresentedTextParses : Prop :=
  ∀ (x : Text) (n : Byte) (lanes : Lanes) (s : State), s.halted = false → n.toNat = min x.length 255 →
    (∀ i < 32, i < x.length → lanes.toList[i]? = x[i]?) →
      exec (.fromtext n lanes.toList) s = .next { s with response := some (parsedResponse (fromText x)) }

/-- R55, R56: TORAW and FROMRAW complete with the value itself and change the response only. -/
def Obligations.RawValuesPassThrough : Prop :=
  ∀ (v : U128) (s : State), s.halted = false →
    exec (.toraw v) s = .next { s with response := some ⟨.ok, some v, none, false⟩ }
      ∧ exec (.fromraw v) s = .next { s with response := some ⟨.ok, some v, none, false⟩ }

/-- R58: EDITP completes with the prefix replaced and changes the response only; `PREFIX` is not touched. -/
def Obligations.EditpCommandAnswers : Prop :=
  ∀ (v : U128) (h : U16) (s : State), s.halted = false →
    ∃ w : U128, w.toNat = h.toNat * 2 ^ 112 + v.toNat % 2 ^ 112
      ∧ exec (.editp v h) s = .next { s with response := some ⟨.ok, some w, none, false⟩ }

/-- R59, R60, R61: each set command completes, writes its own register and the response, and nothing else. -/
def Obligations.SetCommandsWriteOneRegister : Prop :=
  ∀ (h : U16) (s : State), s.halted = false →
    exec (.setdd h) s = .next { s with defaultDeviceId := h, response := some ⟨.ok, none, none, false⟩ }
      ∧ exec (.setp h) s = .next { s with prefixReg := h, response := some ⟨.ok, none, none, false⟩ }
      ∧ exec (.setd h) s = .next { s with deviceId := h, response := some ⟨.ok, none, none, false⟩ }

/-- R62, R63: GEN with a clock and a random source completes with the identifier of the registers, the clock's count and
the word shown; `PREFIX` goes to the sentinel, `DEVICE_ID` to the default, the random source moves by one word, and
nothing else changes. Holds for every value of the sentinel and of the word. -/
def Obligations.GenCompletes : Prop :=
  ∀ s : State, s.halted = false → s.agents.clkValid = true → s.agents.rngValid = true →
    ∃ v : U128, v.toNat = packedNumber s.prefixReg s.deviceId s.agents.clkUs s.rng.word
      ∧ exec .gen s = .next
          { s with
            prefixReg := Config.prefixUncategorized
            deviceId := s.defaultDeviceId
            rng := s.rng.advance
            response := some ⟨.ok, some v, none, true⟩ }

/-- R74 item 1: GEN without the clock or without the random source halts the block, answers Fatal with no value, takes no
word and keeps the three registers. -/
def Obligations.GenHaltsWithoutAgents : Prop :=
  ∀ s : State, s.halted = false → (s.agents.clkValid = false ∨ s.agents.rngValid = false) →
    exec .gen s = .next { s with halted := true, response := some ⟨.fatal, none, none, false⟩ }

/-- R75: the eight commands end with status OK for every value of their operands. -/
def Obligations.EightCommandsNeverFail : Prop :=
  ∀ (i : Instr) (s : State), s.halted = false → (∀ n x, i ≠ .fromtext n x) → i ≠ .gen →
    ∃ (t : State) (r : Response), exec i s = .next t ∧ t.response = some r ∧ r.status = .ok

/-! ### The halt, errors and reserved opcodes -/

/-- R74 item 2: in a halted block every command answers Fatal and changes nothing but the response. -/
def Obligations.HaltedCommandsAnswerFatal : Prop :=
  ∀ (i : Instr) (s : State), s.halted = true →
    exec i s = .next { s with response := some ⟨.fatal, none, none, false⟩ }

/-- R76 item 1: a halted block answers Fatal to every value of `op`, a reserved one too, and looks at nothing else. -/
def Obligations.HaltOutranksDecoding : Prop :=
  ∀ (s : State) (p : Ports) (a : AgentPorts) (rest : List HostAction),
    s.halted = true → s.pending = .command p a :: rest →
      step s = .next
        { s with pending := rest, agents := a, response := some ⟨.fatal, none, none, false⟩ }

/-- R42, R73: in a running block the six reserved values of `op` answer IllegalCommand and change nothing else. -/
def Obligations.ReservedOpcodeIsIllegal : Prop :=
  ∀ (s : State) (p : Ports) (a : AgentPorts) (rest : List HostAction),
    s.halted = false → s.pending = .command p a :: rest →
      (p.op.toNat = 0x0 ∨ p.op.toNat = 0x7 ∨ 0xC ≤ p.op.toNat) →
        step s = .next
          { s with pending := rest, agents := a, response := some ⟨.illegalCommand, none, none, false⟩ }

/-- R70: the numbers of the five statuses. -/
def Obligations.StatusNumbers : Prop :=
  (statusCode .ok).toNat = 0 ∧ (statusCode .invalidLength).toNat = 1 ∧ (statusCode .invalidFormat).toNat = 2
    ∧ (statusCode .fatal).toNat = 3 ∧ (statusCode .illegalCommand).toNat = 4

/-- R74 item 3, R17: a step that is not a reset never clears HALTED, and a halted block keeps its three registers and its
random source untouched by commands. -/
def Obligations.OnlyResetLeavesTheHalt : Prop :=
  ∀ s t : State, step s = .next t → s.halted = true → (∀ rest, s.pending ≠ .reset :: rest) →
    t.halted = true ∧ t.prefixReg = s.prefixReg ∧ t.deviceId = s.deviceId
      ∧ t.defaultDeviceId = s.defaultDeviceId
      ∧ (∀ p a rest, s.pending = .command p a :: rest → t.rng = s.rng)

/-- R17: HALTED becomes 1 only by a GEN of a running block that finds the clock or the random source unavailable. -/
def Obligations.OnlyGenEntersTheHalt : Prop :=
  ∀ s t : State, step s = .next t → s.halted = false → t.halted = true →
    ∃ p a rest, s.pending = .command p a :: rest ∧ p.op = 0xB#4
      ∧ (a.clkValid = false ∨ a.rngValid = false)

/-! ### Steps of the whole machine -/

/-- R40, R26: a step at a command that decodes runs `exec` of it, with the host's action taken up and the agents' ports of
that step shown. -/
def Obligations.StepRunsDecodedInstruction : Prop :=
  ∀ (s : State) (p : Ports) (a : AgentPorts) (rest : List HostAction) (i : Instr),
    s.pending = .command p a :: rest → decode p = .instr i →
      step s = exec i { s with pending := rest, agents := a }

/-- R93, R40: every step is enabled for every input, and ends in a next state. -/
def Obligations.EveryStepAnswers : Prop :=
  ∀ s : State, ∃ t : State, step s = .next t

/-- R10, R85: with nothing presented the block waits. That waiting is a step which changes nothing is the model's choice
(assumption log 2). -/
def Obligations.IdleBlockWaits : Prop :=
  ∀ s : State, s.pending = [] → step s = .next s

/-- R83, R84: reset, from any state, halted or not: the values of `new()`, HALTED cleared; the random source and the clock
are not touched. That no response is pending is R20. -/
def Obligations.ResetRestoresNewGenerator : Prop :=
  ∀ (s : State) (rest : List HostAction), s.pending = .reset :: rest →
    step s = .next
      { s with
        prefixReg := Config.prefixUncategorized, deviceId := 0, defaultDeviceId := 0, halted := false
        response := none, pending := rest }

/-- R20: the block at power-on. -/
def Obligations.PowerOnState : Prop :=
  State.reset.prefixReg = Config.prefixUncategorized ∧ State.reset.deviceId = 0 ∧ State.reset.defaultDeviceId = 0
    ∧ State.reset.halted = false ∧ State.reset.response = none ∧ State.reset.rngTakeOut = false

/-- R68, R66 items 3 and 4: a step at a reseed puts the random source at the start of its seed's stream, and a step at an
initialisation from entropy at the start of the entropy stream numbered one above the initialisations so far; nothing else
changes. How a stream is named is assumption log 5. -/
def Obligations.ReseedLeavesTheBlockAlone : Prop :=
  ∀ (s : State) (rest : List HostAction),
    (∀ k, s.pending = .reseed k :: rest →
        step s = .next { s with rng := s.rng.reseed k, pending := rest }
          ∧ s.rng.reseed k = { s.rng with stream := .seeded k, taken := 0, upcoming := [] })
      ∧ (s.pending = .reinitialise :: rest →
        step s = .next { s with rng := s.rng.reinitialise, pending := rest }
          ∧ s.rng.reinitialise =
            { stream := .entropy (s.rng.renewals + 1), taken := 0, upcoming := [], renewals := s.rng.renewals + 1 })

/-- R66 item 3: after a reseed with the same seed two sources show the same words, however many were taken since. -/
def Obligations.EqualSeedsShowEqualWords : Prop :=
  ∀ (g g' : RandomSource) (seed : Vector Byte 32) (n : Nat),
    (RandomSource.advance^[n] (g.reseed seed)).word = (RandomSource.advance^[n] (g'.reseed seed)).word

/-- R66 items 1 to 4, R62: with no word fixed beforehand, which is how the source stands at power-on, after a reseed and
after an initialisation from entropy, each take moves it by one word of its stream and by nothing else, and it shows the
stream's next word. The stream's words are a free value (assumption log 5), so this says which word of which stream is
shown and not what it is. -/
def Obligations.RandomSourceFollowsItsStream : Prop :=
  (∀ (g : RandomSource) (n : Nat), g.upcoming = [] →
      RandomSource.advance^[n] g = { g with taken := g.taken + n }
        ∧ (RandomSource.advance^[n] g).word = Config.randomWord g.stream (g.taken + n))
    ∧ (∀ (g : RandomSource) (seed : Vector Byte 32) (n : Nat),
        (RandomSource.advance^[n] (g.reseed seed)).word = Config.randomWord (.seeded seed) n)
    ∧ (∀ (g : RandomSource) (n : Nat),
        (RandomSource.advance^[n] g.reinitialise).word = Config.randomWord (.entropy (g.renewals + 1)) n)
    ∧ ∀ n : Nat, (RandomSource.advance^[n] State.reset.rng).word = Config.randomWord (.entropy 0) n

/-- The words that a run fixes beforehand are shown in their order, one for each word taken, and after the last of them
the stream goes on where it stood (the model's form of R66 item 1, assumption log 5). -/
def Obligations.FixedWordsAreShownInOrder : Prop :=
  ∀ (g : RandomSource) (ws : List U64) (n : Nat), g.upcoming = ws →
    (∀ w, ws[n]? = some w → (RandomSource.advance^[n] g).word = w)
      ∧ (RandomSource.advance^[ws.length + n] g).word = Config.randomWord g.stream (g.taken + n)
      ∧ RandomSource.advance^[n] g =
        { g with upcoming := ws.drop n, taken := g.taken + (n - ws.length) }

/-- R64, R66 items 1 and 2: a command moves the random source by one word exactly when it ends with `rng_take` = 1, which
is exactly when it is a GEN that completes; otherwise the source does not change. -/
def Obligations.RandomSourceMovesOnlyOnTake : Prop :=
  ∀ (s t : State) (p : Ports) (a : AgentPorts) (rest : List HostAction),
    s.pending = .command p a :: rest → step s = .next t →
      ∃ r, t.response = some r
        ∧ (r.rngTake = true ↔
            s.halted = false ∧ p.op = 0xB#4 ∧ a.clkValid = true ∧ a.rngValid = true)
        ∧ t.rng = if r.rngTake = true then s.rng.advance else s.rng

/-- R12, R13, R14: what may write each register, and the value it writes. -/
def Obligations.RegisterWriters : Prop :=
  ∀ s t : State, step s = .next t →
    (t.prefixReg = s.prefixReg
        ∨ (∃ rest, s.pending = .reset :: rest ∧ t.prefixReg = Config.prefixUncategorized)
        ∨ ∃ p a rest, s.pending = .command p a :: rest ∧ s.halted = false
            ∧ ((p.op = 0x9#4 ∧ t.prefixReg = p.hIn)
              ∨ (p.op = 0xB#4 ∧ a.clkValid = true ∧ a.rngValid = true
                ∧ t.prefixReg = Config.prefixUncategorized)))
      ∧ (t.deviceId = s.deviceId
        ∨ (∃ rest, s.pending = .reset :: rest ∧ t.deviceId = 0)
        ∨ ∃ p a rest, s.pending = .command p a :: rest ∧ s.halted = false
            ∧ ((p.op = 0xA#4 ∧ t.deviceId = p.hIn)
              ∨ (p.op = 0xB#4 ∧ a.clkValid = true ∧ a.rngValid = true
                ∧ t.deviceId = s.defaultDeviceId)))
      ∧ (t.defaultDeviceId = s.defaultDeviceId
        ∨ (∃ rest, s.pending = .reset :: rest ∧ t.defaultDeviceId = 0)
        ∨ ∃ p a rest, s.pending = .command p a :: rest ∧ s.halted = false
            ∧ p.op = 0x8#4 ∧ t.defaultDeviceId = p.hIn)

/-- R41: two settings of the host's ports that agree on `op` and its format's ports give the same step; and a command
other than GEN gives the same step whatever the agents show. -/
def Obligations.OtherPortsAreIgnored : Prop :=
  ∀ (s : State) (p q : Ports) (a b : AgentPorts) (rest : List HostAction),
    agreeOnFormat p q → (p.op = 0xB#4 → a = b) →
      ∃ t, step { s with pending := .command p a :: rest } = .next t
        ∧ step { s with pending := .command q b :: rest } = .next { t with agents := b }

/-- R94, R18: the response of a command other than GEN is the same in any two running states: no command reads a register
back, and none depends on an earlier one. -/
def Obligations.OnlyGenReadsTheState : Prop :=
  ∀ (i : Instr) (s s' : State), i ≠ .gen → s.halted = false → s'.halted = false →
    ∃ t t' : State, exec i s = .next t ∧ exec i s' = .next t' ∧ t.response = t'.response

/-- R65: the identifier of a GEN is a function of `PREFIX`, `DEVICE_ID`, the count mod 2^48 and the word mod 2^44. -/
def Obligations.GenIsDeterminedByItsInputs : Prop :=
  ∀ s s' : State, s.halted = false → s.agents.clkValid = true → s.agents.rngValid = true →
    s'.halted = false → s'.agents.clkValid = true → s'.agents.rngValid = true →
      s.prefixReg = s'.prefixReg → s.deviceId = s'.deviceId →
        s.agents.clkUs.toNat % 2 ^ 48 = s'.agents.clkUs.toNat % 2 ^ 48 →
          s.rng.word.toNat % 2 ^ 44 = s'.rng.word.toNat % 2 ^ 44 →
            ∃ t t' : State, exec .gen s = .next t ∧ exec .gen s' = .next t' ∧ t.response = t'.response

/-- R34: the version code of every identifier that PACK or GEN makes is 1. -/
def Obligations.VersionCodeIsAlwaysOne : Prop :=
  ∀ (s t : State) (p : Ports) (a : AgentPorts) (rest : List HostAction) (r : Response) (v : U128),
    s.pending = .command p a :: rest → (p.op = 0x1#4 ∨ p.op = 0xB#4) → step s = .next t →
      t.response = some r → r.valOut = some v → v.extractLsb' 108 4 = 1#4

/-- R63: a GEN that completes resets `PREFIX` and `DEVICE_ID` after reading them, so that its identifier carries the old
values and the next GEN's the reset ones; a GEN that ends in Fatal does not reset them. -/
def Obligations.OneShotIsUsedOnce : Prop :=
  (∀ (s : State) (a : AgentPorts), s.halted = false → s.agents.clkValid = true → s.agents.rngValid = true →
    a.clkValid = true → a.rngValid = true →
      ∃ (t u : State) (v w : U128), exec .gen s = .next t ∧ t.response = some ⟨.ok, some v, none, true⟩
        ∧ v.extractLsb' 112 16 = s.prefixReg ∧ v.extractLsb' 92 16 = s.deviceId
        ∧ t.prefixReg = Config.prefixUncategorized ∧ t.deviceId = s.defaultDeviceId
        ∧ exec .gen { t with agents := a } = .next u ∧ u.response = some ⟨.ok, some w, none, true⟩
        ∧ w.extractLsb' 112 16 = Config.prefixUncategorized ∧ w.extractLsb' 92 16 = s.defaultDeviceId)
    ∧ (∀ s : State, s.halted = false → (s.agents.clkValid = false ∨ s.agents.rngValid = false) →
        ∃ t : State, exec .gen s = .next t ∧ t.response = some ⟨.fatal, none, none, false⟩
          ∧ t.prefixReg = s.prefixReg ∧ t.deviceId = s.deviceId)

/-- R88: after SETDD h, the next GEN still carries the old device id, and the one after it carries h. The spec marks it
its own inference: "[derived: from rules R59 and R63]". -/
def Obligations.DefaultDeviceIdArrivesOneGenLate : Prop :=
  ∀ (s : State) (h : U16) (a : AgentPorts), s.halted = false → s.agents.clkValid = true →
    s.agents.rngValid = true → a.clkValid = true → a.rngValid = true →
      ∃ (t u x : State) (v w : U128), exec (.setdd h) s = .next t
        ∧ exec .gen t = .next u ∧ u.response = some ⟨.ok, some v, none, true⟩ ∧ v.extractLsb' 92 16 = s.deviceId
        ∧ exec .gen { u with agents := a } = .next x ∧ x.response = some ⟨.ok, some w, none, true⟩
        ∧ w.extractLsb' 92 16 = h

/-- R47, R62, R63: `GENWITH p, d` (three commands) returns the identifier of `p`, `d` and the two draws, and leaves the one-shot registers reset. -/
def Obligations.GenwithPacksItsOperands : Prop :=
  ∀ (s : State) (p d : U16) (a : AgentPorts) (rest : List HostAction), s.halted = false →
    a.clkValid = true → a.rngValid = true → s.pending = pseudoGenwith p d a ++ rest →
      ∃ v : U128, v.toNat = packedNumber p d a.clkUs s.rng.word
        ∧ Host.Core.run Sys2Proof.core 3 s = .next
            { s with
              prefixReg := Config.prefixUncategorized, deviceId := s.defaultDeviceId, agents := a
              rng := s.rng.advance, pending := rest, response := some ⟨.ok, some v, none, true⟩ }

/-- R47, R95: `RETEXT "x"` of a text that parses gives the text with its `A` to `F` lowered. -/
def Obligations.RetextLowersTheDigits : Prop :=
  ∀ (s : State) (x : Text), s.halted = false → x.length = 32 → (∀ c ∈ x, digitValue c.toNat ≠ none) →
    ∃ (t u : State) (r : Response) (i : Instr) (y : Text), exec (retextFirst x) s = .next t
      ∧ t.response = some r ∧ retextSecond r = some i ∧ exec i t = .next u
      ∧ u.response = some ⟨.ok, none, some y, false⟩
      ∧ y.map BitVec.toNat = x.map (fun c => lowerCode c.toNat)

/-! ### Encodings -/

/-- R38, R39, R45: decoding the ports that the encoder drives gives the command back, for every well-formed command and
every value of its operands. -/
def Obligations.DecodeOfEncode : Prop :=
  ∀ i : Instr, i.wellFormed = true → decode (encode i) = .instr i

/-- R40: for every setting of the ports the decoder gives a well-formed command whose opcode is `op`, or names `op` as
reserved, and the latter exactly on the six reserved values. -/
def Obligations.DecodingIsTotal : Prop :=
  ∀ p : Ports,
    (∃ i : Instr, decode p = .instr i ∧ i.wellFormed = true ∧ opcode i = p.op
        ∧ ¬ (p.op.toNat = 0x0 ∨ p.op.toNat = 0x7 ∨ 0xC ≤ p.op.toNat))
      ∨ (decode p = .reserved p.op ∧ (p.op.toNat = 0x0 ∨ p.op.toNat = 0x7 ∨ 0xC ≤ p.op.toNat))

/-- R39: four words of the opcode map, one of each family and a reserved one. -/
def Obligations.DecodeWords : Prop :=
  decode { idlePorts with op := 0x1, pIn := 0x00AB, dIn := 0x0002, tsIn := 0x1 } = .instr (.pack 0x00AB 0x0002 0x1 0x0)
    ∧ decode { idlePorts with op := 0x6, valIn := 0x1, hIn := 0xBEEF } = .instr (.editp 0x1 0xBEEF)
    ∧ decode { idlePorts with op := 0x9, hIn := 0x00AB } = .instr (.setp 0x00AB)
    ∧ decode { idlePorts with op := 0xB } = .instr .gen
    ∧ decode { idlePorts with op := 0x7 } = .reserved 0x7

/-! ### The invariant -/

/-- R74, R77, R78, R44, R36, R34: every step keeps the invariant of Safety.lean. -/
def Obligations.EveryStepKeepsInvariant : Prop :=
  ∀ s t : State, s.Inv → step s = .next t → t.Inv

/-- The invariant holds at reset. -/
def Obligations.InvariantHoldsAtReset : Prop :=
  State.reset.Inv
end

