-- ==== Sys2Proof/Laws/Decode.lean ====
section
/-! SUPPORT. Sys2Proof/Laws/Decode.lean: what the decoder reads for each value of `op` (spec/30_encoding.md R39, R42), one
lemma per opcode, and the case split over the sixteen values. -/

namespace Sys2Proof

variable {p : Ports}

theorem decode_pack (h : p.op = 0x1#4) : decode p = .instr (.pack p.pIn p.dIn p.tsIn p.rndIn) := by
  simp [decode, h]

theorem decode_totext (h : p.op = 0x2#4) : decode p = .instr (.totext p.valIn) := by
  simp [decode, h]

theorem decode_fromtext (h : p.op = 0x3#4) : decode p = .instr (.fromtext p.txtLen p.txtIn.toList) := by
  simp [decode, h]

theorem decode_toraw (h : p.op = 0x4#4) : decode p = .instr (.toraw p.valIn) := by
  simp [decode, h]

theorem decode_fromraw (h : p.op = 0x5#4) : decode p = .instr (.fromraw p.valIn) := by
  simp [decode, h]

theorem decode_editp (h : p.op = 0x6#4) : decode p = .instr (.editp p.valIn p.hIn) := by
  simp [decode, h]

theorem decode_setdd (h : p.op = 0x8#4) : decode p = .instr (.setdd p.hIn) := by
  simp [decode, h]

theorem decode_setp (h : p.op = 0x9#4) : decode p = .instr (.setp p.hIn) := by
  simp [decode, h]

theorem decode_setd (h : p.op = 0xA#4) : decode p = .instr (.setd p.hIn) := by
  simp [decode, h]

theorem decode_gen (h : p.op = 0xB#4) : decode p = .instr .gen := by
  simp [decode, h]

/-- The sixteen values of `op`: the ten commands' and the reserved ones. -/
theorem op_cases (op : U4) :
    op = 0x1 ∨ op = 0x2 ∨ op = 0x3 ∨ op = 0x4 ∨ op = 0x5 ∨ op = 0x6 ∨ op = 0x8 ∨ op = 0x9 ∨ op = 0xA
      ∨ op = 0xB ∨ reservedOp op = true := by
  revert op; decide

theorem decode_reserved (h : reservedOp p.op = true) : decode p = .reserved p.op := by
  have key : ∀ op : U4, reservedOp op = true → op = 0x0 ∨ op = 0x7 ∨ op = 0xC ∨ op = 0xD ∨ op = 0xE ∨ op = 0xF := by
    decide
  rcases key p.op h with h | h | h | h | h | h <;> simp [decode, h]

end Sys2Proof
end

