-- ==== Sys2Proof/Laws/State.lean ====
section
/-! SUPPORT. Sys2Proof/Laws/State.lean: what each update of the state does to each field, one lemma per field per update,
so that no later proof unfolds a record update. -/

namespace Sys2Proof.Machine

variable (s : State)

/-! ### writePrefix -/

@[simp] theorem State.writePrefix_prefixReg (h : U16) : (s.writePrefix h).prefixReg = h := rfl
@[simp] theorem State.writePrefix_deviceId (h : U16) : (s.writePrefix h).deviceId = s.deviceId := rfl
@[simp] theorem State.writePrefix_defaultDeviceId (h : U16) : (s.writePrefix h).defaultDeviceId = s.defaultDeviceId := rfl
@[simp] theorem State.writePrefix_halted (h : U16) : (s.writePrefix h).halted = s.halted := rfl
@[simp] theorem State.writePrefix_response (h : U16) : (s.writePrefix h).response = s.response := rfl
@[simp] theorem State.writePrefix_agents (h : U16) : (s.writePrefix h).agents = s.agents := rfl
@[simp] theorem State.writePrefix_rng (h : U16) : (s.writePrefix h).rng = s.rng := rfl
@[simp] theorem State.writePrefix_pending (h : U16) : (s.writePrefix h).pending = s.pending := rfl

/-! ### writeDeviceId -/

@[simp] theorem State.writeDeviceId_prefixReg (h : U16) : (s.writeDeviceId h).prefixReg = s.prefixReg := rfl
@[simp] theorem State.writeDeviceId_deviceId (h : U16) : (s.writeDeviceId h).deviceId = h := rfl
@[simp] theorem State.writeDeviceId_defaultDeviceId (h : U16) : (s.writeDeviceId h).defaultDeviceId = s.defaultDeviceId := rfl
@[simp] theorem State.writeDeviceId_halted (h : U16) : (s.writeDeviceId h).halted = s.halted := rfl
@[simp] theorem State.writeDeviceId_response (h : U16) : (s.writeDeviceId h).response = s.response := rfl
@[simp] theorem State.writeDeviceId_agents (h : U16) : (s.writeDeviceId h).agents = s.agents := rfl
@[simp] theorem State.writeDeviceId_rng (h : U16) : (s.writeDeviceId h).rng = s.rng := rfl
@[simp] theorem State.writeDeviceId_pending (h : U16) : (s.writeDeviceId h).pending = s.pending := rfl

/-! ### writeDefaultDeviceId -/

@[simp] theorem State.writeDefaultDeviceId_prefixReg (h : U16) : (s.writeDefaultDeviceId h).prefixReg = s.prefixReg := rfl
@[simp] theorem State.writeDefaultDeviceId_deviceId (h : U16) : (s.writeDefaultDeviceId h).deviceId = s.deviceId := rfl
@[simp] theorem State.writeDefaultDeviceId_defaultDeviceId (h : U16) : (s.writeDefaultDeviceId h).defaultDeviceId = h := rfl
@[simp] theorem State.writeDefaultDeviceId_halted (h : U16) : (s.writeDefaultDeviceId h).halted = s.halted := rfl
@[simp] theorem State.writeDefaultDeviceId_response (h : U16) : (s.writeDefaultDeviceId h).response = s.response := rfl
@[simp] theorem State.writeDefaultDeviceId_agents (h : U16) : (s.writeDefaultDeviceId h).agents = s.agents := rfl
@[simp] theorem State.writeDefaultDeviceId_rng (h : U16) : (s.writeDefaultDeviceId h).rng = s.rng := rfl
@[simp] theorem State.writeDefaultDeviceId_pending (h : U16) : (s.writeDefaultDeviceId h).pending = s.pending := rfl

/-! ### respond -/

@[simp] theorem State.respond_prefixReg (r : Response) : (s.respond r).prefixReg = s.prefixReg := rfl
@[simp] theorem State.respond_deviceId (r : Response) : (s.respond r).deviceId = s.deviceId := rfl
@[simp] theorem State.respond_defaultDeviceId (r : Response) : (s.respond r).defaultDeviceId = s.defaultDeviceId := rfl
@[simp] theorem State.respond_halted (r : Response) : (s.respond r).halted = s.halted := rfl
@[simp] theorem State.respond_response (r : Response) : (s.respond r).response = some r := rfl
@[simp] theorem State.respond_agents (r : Response) : (s.respond r).agents = s.agents := rfl
@[simp] theorem State.respond_rng (r : Response) : (s.respond r).rng = s.rng := rfl
@[simp] theorem State.respond_pending (r : Response) : (s.respond r).pending = s.pending := rfl

/-! ### raise -/

@[simp] theorem State.raise_prefixReg (e : Status) : (s.raise e).prefixReg = s.prefixReg := rfl
@[simp] theorem State.raise_deviceId (e : Status) : (s.raise e).deviceId = s.deviceId := rfl
@[simp] theorem State.raise_defaultDeviceId (e : Status) : (s.raise e).defaultDeviceId = s.defaultDeviceId := rfl
@[simp] theorem State.raise_halted (e : Status) : (s.raise e).halted = haltedAfter e s.halted := rfl
@[simp] theorem State.raise_response (e : Status) : (s.raise e).response = some (failed e) := rfl
@[simp] theorem State.raise_agents (e : Status) : (s.raise e).agents = s.agents := rfl
@[simp] theorem State.raise_rng (e : Status) : (s.raise e).rng = s.rng := rfl
@[simp] theorem State.raise_pending (e : Status) : (s.raise e).pending = s.pending := rfl

/-! ### takeWord -/

@[simp] theorem State.takeWord_prefixReg : s.takeWord.prefixReg = s.prefixReg := rfl
@[simp] theorem State.takeWord_deviceId : s.takeWord.deviceId = s.deviceId := rfl
@[simp] theorem State.takeWord_defaultDeviceId : s.takeWord.defaultDeviceId = s.defaultDeviceId := rfl
@[simp] theorem State.takeWord_halted : s.takeWord.halted = s.halted := rfl
@[simp] theorem State.takeWord_response : s.takeWord.response = s.response := rfl
@[simp] theorem State.takeWord_agents : s.takeWord.agents = s.agents := rfl
@[simp] theorem State.takeWord_rng : s.takeWord.rng = s.rng.advance := rfl
@[simp] theorem State.takeWord_pending : s.takeWord.pending = s.pending := rfl

/-! ### reseed -/

@[simp] theorem State.reseed_prefixReg (k : Vector Byte 32) : (s.reseed k).prefixReg = s.prefixReg := rfl
@[simp] theorem State.reseed_deviceId (k : Vector Byte 32) : (s.reseed k).deviceId = s.deviceId := rfl
@[simp] theorem State.reseed_defaultDeviceId (k : Vector Byte 32) : (s.reseed k).defaultDeviceId = s.defaultDeviceId := rfl
@[simp] theorem State.reseed_halted (k : Vector Byte 32) : (s.reseed k).halted = s.halted := rfl
@[simp] theorem State.reseed_response (k : Vector Byte 32) : (s.reseed k).response = s.response := rfl
@[simp] theorem State.reseed_agents (k : Vector Byte 32) : (s.reseed k).agents = s.agents := rfl
@[simp] theorem State.reseed_rng (k : Vector Byte 32) : (s.reseed k).rng = s.rng.reseed k := rfl
@[simp] theorem State.reseed_pending (k : Vector Byte 32) : (s.reseed k).pending = s.pending := rfl

/-! ### reinitialise -/

@[simp] theorem State.reinitialise_prefixReg : s.reinitialise.prefixReg = s.prefixReg := rfl
@[simp] theorem State.reinitialise_deviceId : s.reinitialise.deviceId = s.deviceId := rfl
@[simp] theorem State.reinitialise_defaultDeviceId : s.reinitialise.defaultDeviceId = s.defaultDeviceId := rfl
@[simp] theorem State.reinitialise_halted : s.reinitialise.halted = s.halted := rfl
@[simp] theorem State.reinitialise_response : s.reinitialise.response = s.response := rfl
@[simp] theorem State.reinitialise_agents : s.reinitialise.agents = s.agents := rfl
@[simp] theorem State.reinitialise_rng : s.reinitialise.rng = s.rng.reinitialise := rfl
@[simp] theorem State.reinitialise_pending : s.reinitialise.pending = s.pending := rfl

/-! ### resetBlock -/

@[simp] theorem State.resetBlock_prefixReg : s.resetBlock.prefixReg = Config.prefixUncategorized := rfl
@[simp] theorem State.resetBlock_deviceId : s.resetBlock.deviceId = Config.deviceIdReset := rfl
@[simp] theorem State.resetBlock_defaultDeviceId : s.resetBlock.defaultDeviceId = Config.deviceIdReset := rfl
@[simp] theorem State.resetBlock_halted : s.resetBlock.halted = false := rfl
@[simp] theorem State.resetBlock_response : s.resetBlock.response = none := rfl
@[simp] theorem State.resetBlock_agents : s.resetBlock.agents = s.agents := rfl
@[simp] theorem State.resetBlock_rng : s.resetBlock.rng = s.rng := rfl
@[simp] theorem State.resetBlock_pending : s.resetBlock.pending = s.pending := rfl

/-! ### consume -/

@[simp] theorem State.consume_prefixReg (l : List HostAction) : (s.consume l).prefixReg = s.prefixReg := rfl
@[simp] theorem State.consume_deviceId (l : List HostAction) : (s.consume l).deviceId = s.deviceId := rfl
@[simp] theorem State.consume_defaultDeviceId (l : List HostAction) : (s.consume l).defaultDeviceId = s.defaultDeviceId := rfl
@[simp] theorem State.consume_halted (l : List HostAction) : (s.consume l).halted = s.halted := rfl
@[simp] theorem State.consume_response (l : List HostAction) : (s.consume l).response = s.response := rfl
@[simp] theorem State.consume_agents (l : List HostAction) : (s.consume l).agents = s.agents := rfl
@[simp] theorem State.consume_rng (l : List HostAction) : (s.consume l).rng = s.rng := rfl
@[simp] theorem State.consume_pending (l : List HostAction) : (s.consume l).pending = l := rfl

/-! ### sample -/

@[simp] theorem State.sample_prefixReg (a : AgentPorts) : (s.sample a).prefixReg = s.prefixReg := rfl
@[simp] theorem State.sample_deviceId (a : AgentPorts) : (s.sample a).deviceId = s.deviceId := rfl
@[simp] theorem State.sample_defaultDeviceId (a : AgentPorts) : (s.sample a).defaultDeviceId = s.defaultDeviceId := rfl
@[simp] theorem State.sample_halted (a : AgentPorts) : (s.sample a).halted = s.halted := rfl
@[simp] theorem State.sample_response (a : AgentPorts) : (s.sample a).response = s.response := rfl
@[simp] theorem State.sample_agents (a : AgentPorts) : (s.sample a).agents = a := rfl
@[simp] theorem State.sample_rng (a : AgentPorts) : (s.sample a).rng = s.rng := rfl
@[simp] theorem State.sample_pending (a : AgentPorts) : (s.sample a).pending = s.pending := rfl

/-! ### oneShotReset -/

@[simp] theorem State.oneShotReset_prefixReg : s.oneShotReset.prefixReg = Config.prefixUncategorized := rfl
@[simp] theorem State.oneShotReset_deviceId : s.oneShotReset.deviceId = s.defaultDeviceId := rfl
@[simp] theorem State.oneShotReset_defaultDeviceId : s.oneShotReset.defaultDeviceId = s.defaultDeviceId := rfl
@[simp] theorem State.oneShotReset_halted : s.oneShotReset.halted = s.halted := rfl
@[simp] theorem State.oneShotReset_response : s.oneShotReset.response = s.response := rfl
@[simp] theorem State.oneShotReset_agents : s.oneShotReset.agents = s.agents := rfl
@[simp] theorem State.oneShotReset_rng : s.oneShotReset.rng = s.rng := rfl
@[simp] theorem State.oneShotReset_pending : s.oneShotReset.pending = s.pending := rfl

@[simp] theorem State.idle_eq : s.idle = s := rfl

end Sys2Proof.Machine
end

