-- ==== Sys2Proof/Laws/Ops.lean ====
section
/-! SUPPORT. Sys2Proof/Laws/Ops.lean: one lemma per shared operation, saying once what it can do. The provers cite these
rather than unfold the operations. -/

namespace Sys2Proof.Machine

/-! ### Errors and the halt -/

@[simp] theorem haltedAfter_fatal (h : Bool) : haltedAfter .fatal h = true := by
  simp [haltedAfter]

theorem haltedAfter_recoverable {e : Status} (he : e ≠ .fatal) (h : Bool) : haltedAfter e h = h := by
  simp [haltedAfter, he]

/-- A recoverable error changes the response and nothing else (R77). -/
theorem raise_recoverable (s : State) {e : Status} (he : e ≠ .fatal) :
    s.raise e = { s with response := some (failed e) } := by
  simp [State.raise, State.respond, haltedAfter_recoverable he]

/-- `Fatal` sets HALTED and the response and nothing else (R74, R77). -/
theorem raise_fatal (s : State) :
    s.raise .fatal = { s with halted := true, response := some (failed .fatal) } := by
  simp [State.raise, State.respond]

theorem whenRunning_of_running {s : State} (h : s.halted = false) (effect : State) :
    whenRunning s effect = .next effect := by
  simp [whenRunning, h]

theorem whenRunning_of_halted {s : State} (h : s.halted = true) (effect : State) :
    whenRunning s effect = .next (s.raise .fatal) := by
  simp [whenRunning, h]

/-- All that a guarded command can do: answer a next state, the effect or the halt's answer (R74, R76). -/
theorem whenRunning_cases (s effect : State) :
    (s.halted = false ∧ whenRunning s effect = .next effect)
      ∨ (s.halted = true ∧ whenRunning s effect = .next (s.raise .fatal)) := by
  cases h : s.halted
  · exact .inl ⟨rfl, whenRunning_of_running h effect⟩
  · exact .inr ⟨rfl, whenRunning_of_halted h effect⟩

/-- All that answering a parse can do (R54, R71, R72). -/
theorem respondParsed_cases (s : State) (x : Parsed) :
    (∃ v, x = .value v ∧ s.respondParsed x = s.respond (okValue v))
      ∨ (x = .invalidLength ∧ s.respondParsed x = s.raise .invalidLength)
      ∨ (x = .invalidFormat ∧ s.respondParsed x = s.raise .invalidFormat) := by
  cases x <;> simp [State.respondParsed]

/-- All that a parse can answer (R53, R76). -/
theorem parse_cases (b : Bool) (s : Text) :
    (b = false ∧ parse b s = .invalidLength)
      ∨ (b = true ∧ allHex s = false ∧ parse b s = .invalidFormat)
      ∨ (b = true ∧ allHex s = true ∧ parse b s = .value (hexSum s)) := by
  cases b <;> cases h : allHex s <;> simp [parse, h]

/-! ### The random source -/

theorem RandomSource.word_upcoming (g : RandomSource) {w : U64} {ws : List U64} (h : g.upcoming = w :: ws) :
    g.word = w := by
  simp [RandomSource.word, h]

theorem RandomSource.word_stream (g : RandomSource) (h : g.upcoming = []) :
    g.word = Config.randomWord g.stream g.taken := by
  simp [RandomSource.word, h]

theorem RandomSource.advance_upcoming (g : RandomSource) {w : U64} {ws : List U64} (h : g.upcoming = w :: ws) :
    g.advance = { g with upcoming := ws } := by
  simp [RandomSource.advance, h]

theorem RandomSource.advance_stream (g : RandomSource) (h : g.upcoming = []) :
    g.advance = { g with taken := g.taken + 1 } := by
  simp [RandomSource.advance, h]

/-! ### Texts -/

@[simp] theorem toText_length (v : U128) : (toText v).length = 32 := by
  simp [toText]

theorem toText_getElem? (v : U128) {i : Nat} (hi : i < 32) :
    (toText v)[i]? = some (hexchar (nibble v i)) := by
  simp [toText, hi]

theorem hexval_hexchar (n : U4) : hexval (hexchar n) = some n := by
  revert n; decide

theorem lowercaseHex_hexchar (n : U4) : lowercaseHex (hexchar n) := by
  revert n; unfold lowercaseHex; decide

@[simp] theorem hexSum_nil : hexSum [] = 0 := rfl

theorem hexSum_cons (c : Byte) (s : Text) :
    hexSum (c :: s) = ((hexval c).getD 0).setWidth 128 <<< (4 * s.length) + hexSum s := rfl

theorem allHex_iff (s : Text) : allHex s = true ↔ ∀ c ∈ s, (hexval c).isSome = true := by
  simp [allHex]

/-! ### Lanes and the presented text -/

@[simp] theorem lanesOf_toList_length (s : Text) : (lanesOf s).toList.length = 32 := by
  simp

theorem lanesOf_getElem (s : Text) {i : Nat} (hi : i < 32) : (lanesOf s)[i] = s.getD i 0 := by
  simp [lanesOf]

end Sys2Proof.Machine
end

