-- ==== Sys2Proof/Laws/PerInstr.lean ====
section
/-! SUPPORT. Sys2Proof/Laws/PerInstr.lean: one law of every command as syntax, a lemma per constructor: the encoder drives
the command's own opcode, which is none of the reserved ones (spec/30_encoding.md R39, R42), and leaves every port outside
the command's format at zero, so that what it drives is `op` and the operands (R38). -/

namespace Sys2Proof.Laws.OpcodeLaw

/-- The ports outside the format of an opcode are idle (R38). -/
def idleOutsideFormat (p : Ports) : Prop :=
  (p.op ≠ 1 → p.pIn = 0 ∧ p.dIn = 0 ∧ p.tsIn = 0 ∧ p.rndIn = 0)
    ∧ (p.op ≠ 2 ∧ p.op ≠ 4 ∧ p.op ≠ 5 ∧ p.op ≠ 6 → p.valIn = 0)
    ∧ (p.op ≠ 6 ∧ p.op ≠ 8 ∧ p.op ≠ 9 ∧ p.op ≠ 10 → p.hIn = 0)
    ∧ (p.op ≠ 3 → p.txtLen = 0 ∧ p.txtIn = idlePorts.txtIn)

def Statement (i : Instr) : Prop :=
  (encode i).op = opcode i ∧ reservedOp (opcode i) = false ∧ idleOutsideFormat (encode i)

theorem pack (p d : U16) (t r : U64) : Statement (.pack p d t r) := by
  simp [Statement, idleOutsideFormat, encode, opcode, reservedOp, idlePorts]

theorem totext (v : U128) : Statement (.totext v) := by
  simp [Statement, idleOutsideFormat, encode, opcode, reservedOp, idlePorts]

theorem fromtext (n : Byte) (s : Text) : Statement (.fromtext n s) := by
  simp [Statement, idleOutsideFormat, encode, opcode, reservedOp, idlePorts]

theorem toraw (v : U128) : Statement (.toraw v) := by
  simp [Statement, idleOutsideFormat, encode, opcode, reservedOp, idlePorts]

theorem fromraw (v : U128) : Statement (.fromraw v) := by
  simp [Statement, idleOutsideFormat, encode, opcode, reservedOp, idlePorts]

theorem editp (v : U128) (h : U16) : Statement (.editp v h) := by
  simp [Statement, idleOutsideFormat, encode, opcode, reservedOp, idlePorts]

theorem setdd (h : U16) : Statement (.setdd h) := by
  simp [Statement, idleOutsideFormat, encode, opcode, reservedOp, idlePorts]

theorem setp (h : U16) : Statement (.setp h) := by
  simp [Statement, idleOutsideFormat, encode, opcode, reservedOp, idlePorts]

theorem setd (h : U16) : Statement (.setd h) := by
  simp [Statement, idleOutsideFormat, encode, opcode, reservedOp, idlePorts]

theorem gen : Statement .gen := by
  simp [Statement, idleOutsideFormat, encode, opcode, reservedOp, idlePorts]

end Sys2Proof.Laws.OpcodeLaw
end

