-- ==== Sys2Proof/Tests/Slice0.lean ====
section
/-! SUPPORT. Sys2Proof/Tests/Slice0.lean: tests whose expected results are the spec's own vectors (spec/95_test_vectors.md,
named in each comment), the decoder on words written out from spec/30_encoding.md R38 and R39, a smoke test of
well-formedness, and for every statement with hypotheses a witness that meets them. -/

namespace Sys2Proof.Tests

open Sys2Proof.Machine

/-! ### Helpers -/

/-- The bytes of a text written in ASCII. -/
def ascii (s : String) : Text :=
  s.toList.map fun c => BitVec.ofNat 8 c.toNat

/-- A running block with (PREFIX, DEVICE_ID, DEFAULT_DEVICE_ID) = (0x00AB, 2, 5), the clock at `clk`, the source showing
`w`. -/
def probe (clk w : U64) : State :=
  { prefixReg := 0x00AB, deviceId := 2, defaultDeviceId := 5, halted := false, response := none
    agents := { clkValid := true, clkUs := clk, rngValid := true }
    rng := { stream := .entropy 0, taken := 0, upcoming := [w, 7], renewals := 0 }
    pending := [] }

/-- The next state of a command, if it answers one. -/
def after (i : Instr) (s : State) : Option State :=
  match exec i s with
  | .next t => some t
  | .fault _ => none
  | .refused _ => none

/-- The response to a command. -/
def answer (i : Instr) (s : State) : Option Response :=
  (after i s).bind fun t => t.response

/-- The next state of a step with the given command presented. -/
def stepOn (p : Ports) (a : AgentPorts) (s : State) : Option State :=
  match step { s with pending := [.command p a] } with
  | .next t => some t
  | .fault _ => none
  | .refused _ => none

def bothAnswer : AgentPorts := { clkValid := true, clkUs := 1, rngValid := true }

def stopped : State := { probe 1 3 with halted := true }

/-! ### Decoding: a word for each command, bit by bit (R38, R39) -/

theorem test_decode_pack :
    decode { idlePorts with op := 0b0001, pIn := 0xAB, dIn := 0x2, tsIn := 0x1, rndIn := 0x9 }
      = .instr (.pack 0xAB 0x2 0x1 0x9) := by decide
theorem test_decode_totext :
    decode { idlePorts with op := 0b0010, valIn := 0x1 } = .instr (.totext 0x1) := by decide
theorem test_decode_fromtext :
    decode { idlePorts with op := 0b0011, txtLen := 1, txtIn := lanesOf [0x31] }
      = .instr (.fromtext 1 (0x31 :: List.replicate 31 0)) := by decide
theorem test_decode_toraw :
    decode { idlePorts with op := 0b0100, valIn := 0x1 } = .instr (.toraw 0x1) := by decide
theorem test_decode_fromraw :
    decode { idlePorts with op := 0b0101, valIn := 0x1 } = .instr (.fromraw 0x1) := by decide
theorem test_decode_editp :
    decode { idlePorts with op := 0b0110, valIn := 0x1, hIn := 0xBEEF } = .instr (.editp 0x1 0xBEEF) := by decide
theorem test_decode_setdd :
    decode { idlePorts with op := 0b1000, hIn := 0x5 } = .instr (.setdd 0x5) := by decide
theorem test_decode_setp :
    decode { idlePorts with op := 0b1001, hIn := 0xAB } = .instr (.setp 0xAB) := by decide
theorem test_decode_setd :
    decode { idlePorts with op := 0b1010, hIn := 0x2 } = .instr (.setd 0x2) := by decide
theorem test_decode_gen :
    decode { idlePorts with op := 0b1011 } = .instr .gen := by decide
/-- The idle bus is no command, and neither are the other five reserved values (R42). -/
theorem test_decode_reserved :
    decode idlePorts = .reserved 0x0 ∧ decode { idlePorts with op := 0b0111 } = .reserved 0x7
      ∧ decode { idlePorts with op := 0b1100 } = .reserved 0xC ∧ decode { idlePorts with op := 0b1101 } = .reserved 0xD
      ∧ decode { idlePorts with op := 0b1110 } = .reserved 0xE ∧ decode { idlePorts with op := 0b1111 } = .reserved 0xF := by
  decide
theorem test_table_words :
    decodeTableWord 8 0x1 = some (.pack 0 0 0 0) ∧ decodeTableWord 8 0xB = some .gen
      ∧ decodeTableWord 8 0x0 = none ∧ decodeTableWord 8 0xF = none := by decide
/-- The first instruction after reset is the one placed, and it completes. -/
theorem test_placed_word_runs :
    (match step (State.reset.withFetchWord 8 0x9) with
      | .next t => t.prefixReg == 0 && t.pending == []
      | .fault _ => false
      | .refused _ => false) = true := by decide

/-! ### Well-formedness -/

/-- 31 or 33 bytes do not fill the 32 lanes; 32 do, whatever length is offered (R22, R54). -/
theorem test_wellFormed_lanes :
    (Instr.fromtext 31 (List.replicate 31 0x30)).wellFormed = false
      ∧ (Instr.fromtext 33 (List.replicate 33 0x30)).wellFormed = false
      ∧ (Instr.fromtext 1 (List.replicate 32 0x30)).wellFormed = true := by decide

/-! ### PACK (vectors K6, K10, K20, K21, K22) -/

theorem test_pack_mixed :
    answer (.pack 0x1234 0xBEEF 0x00062A5C3D4E5F60 0xDEADBEEFCAFEF00D) (probe 1 3)
      = some ⟨.ok, some 0x12341BEEF2A5C3D4E5F60EEFCAFEF00D, none, false⟩ := by decide
theorem test_pack_edges :
    pack 0 0x10 0 0 = 0x00001001000000000000000000000000 ∧ pack 0 0 0x0000100000000000 0 = 0x00001000010000000000000000000000
      ∧ pack 0 0 0x0001000000000005 0x0000100000000007 = 0x00001000000000000000500000000007
      ∧ pack 0xFFFF 0xFFFF 0xFFFFFFFFFFFFFFFF 0xFFFFFFFFFFFFFFFF = 0xFFFF1FFFFFFFFFFFFFFFFFFFFFFFFFFF := by decide

/-! ### TOTEXT (vectors T2, T4, T6) -/

theorem test_totext_digits :
    answer (.totext 0x0123456789ABCDEFFEDCBA9876543210) (probe 1 3)
      = some ⟨.ok, none, some (ascii "0123456789abcdeffedcba9876543210"), false⟩ := by decide
theorem test_totext_ends :
    toText 0x1 = List.replicate 31 0x30 ++ [0x31]
      ∧ toText 0xA0000000000000000000000000000000 = 0x61 :: List.replicate 31 0x30 := by decide

/-! ### FROMTEXT (vectors F2, F8, F12 to F31) -/

theorem test_fromtext_answers :
    answer (fromtextOf (ascii "00AB1000200000000000100000000000")) (probe 1 3)
        = some ⟨.ok, some 0x00AB1000200000000000100000000000, none, false⟩
      ∧ answer (fromtextOf (ascii "1")) (probe 1 3) = some ⟨.invalidLength, none, none, false⟩
      ∧ answer (fromtextOf (ascii "g")) (probe 1 3) = some ⟨.invalidLength, none, none, false⟩
      ∧ answer (fromtextOf (List.replicate 33 0x30)) (probe 1 3) = some ⟨.invalidLength, none, none, false⟩
      ∧ answer (fromtextOf (List.replicate 31 0x30 ++ [0x67])) (probe 1 3)
        = some ⟨.invalidFormat, none, none, false⟩ := by decide
/-- The bytes on each side of the three ranges (F20 to F30, F19). -/
theorem test_hexval_boundaries :
    [0x2F, 0x30, 0x39, 0x3A, 0x40, 0x41, 0x46, 0x47, 0x60, 0x61, 0x66, 0x67, 0x80].map hexval
      = [none, some 0, some 9, none, none, some 10, some 15, none, none, some 10, some 15, none, none] := by decide

/-! ### TORAW, FROMRAW, EDITP (section 5 and vectors E3, E5) -/

theorem test_toraw :
    answer (.toraw 0x00AB1000200000000000100000000000) (probe 1 3)
      = some ⟨.ok, some 0x00AB1000200000000000100000000000, none, false⟩ := by decide
theorem test_fromraw_zero :
    answer (.fromraw 0x0) (probe 1 3) = some ⟨.ok, some 0x0, none, false⟩ := by decide
theorem test_editp_clears_old :
    answer (.editp 0xFFFFFFFFFFFFFFFFFFFFFFFFFFFFFFFF 0x0000) (probe 1 3)
      = some ⟨.ok, some 0x0000FFFFFFFFFFFFFFFFFFFFFFFFFFFF, none, false⟩ := by decide
theorem test_editp_keeps_low :
    answer (.editp 0x0123456789ABCDEFFEDCBA9876543210 0x8001) (probe 1 3)
      = some ⟨.ok, some 0x8001456789ABCDEFFEDCBA9876543210, none, false⟩ := by decide

/-! ### SETDD, SETP, SETD (vectors C4, C6 and worked examples) -/

theorem test_setdd :
    (after (.setdd 0xFFFF) (probe 1 3)).map (fun t => (t.prefixReg, t.deviceId, t.defaultDeviceId))
      = some (0x00AB, 2, 0xFFFF) := by decide
theorem test_setp :
    (after (.setp 0x00CD) (probe 1 3)).map (fun t => (t.prefixReg, t.deviceId, t.defaultDeviceId))
      = some (0x00CD, 2, 5) := by decide
theorem test_setd :
    (after (.setd 0x0009) (probe 1 3)).map (fun t => (t.prefixReg, t.deviceId, t.defaultDeviceId))
      = some (0x00AB, 9, 5) := by decide

/-! ### GEN (vectors G2, G6) -/

theorem test_gen_completes :
    (after .gen (probe 0x1 0x0)).map (fun t => (t.response, t.deviceId, t.defaultDeviceId, t.halted, t.rng.upcoming))
      = some (some ⟨.ok, some 0x00AB1000200000000000100000000000, none, true⟩, 5, 5, false, [7]) := by decide
theorem test_gen_without_clock :
    after .gen { probe 0x1 0x3 with agents := { clkValid := false, clkUs := 1, rngValid := true } }
      = some { probe 0x1 0x3 with
          agents := { clkValid := false, clkUs := 1, rngValid := true }, halted := true
          response := some ⟨.fatal, none, none, false⟩ } := by decide

/-! ### Reserved opcodes, the halt and reset (vectors X2, X4, program P4) -/

theorem test_reserved_and_halted :
    (stepOn { idlePorts with op := 0x7 } bothAnswer (probe 1 3)).map (fun t => (t.response.map Response.status, t.prefixReg))
        = some (some .illegalCommand, 0x00AB)
      ∧ (stepOn { idlePorts with op := 0x7 } bothAnswer stopped).map (fun t => t.response.map Response.status)
        = some (some .fatal)
      ∧ (stepOn { idlePorts with op := 0x9, hIn := 0xCD } bothAnswer stopped).map (fun t => (t.prefixReg, t.halted))
        = some (0x00AB, true) := by decide
theorem test_reset_leaves_halt :
    (match step { stopped with pending := [.reset] } with
      | .next t => !t.halted && t.deviceId == 0 && t.defaultDeviceId == 0 && t.rng == stopped.rng
      | .fault _ => false
      | .refused _ => false) = true := by decide

/-! ### Witnesses: for each statement with hypotheses, an input that meets them all -/

theorem witness_PackReadsBackAndTruncates :
    (0x0001000000000005#64).toNat = (5#64).toNat + 1 * 2 ^ 48
      ∧ (0x0000100000000007#64).toNat = (7#64).toNat + 1 * 2 ^ 44 := by decide
theorem witness_PackInjectiveInRange :
    (0x0000FFFFFFFFFFFF#64).toNat < 2 ^ 48 ∧ (0x00000FFFFFFFFFFF#64).toNat < 2 ^ 44
      ∧ pack 1 2 0x0000FFFFFFFFFFFF 0x00000FFFFFFFFFFF = pack 1 2 0x0000FFFFFFFFFFFF 0x00000FFFFFFFFFFF := by decide
theorem witness_DistinctValuesHaveDistinctTexts : toText 5 = toText 5 := by decide
/-- The three clauses, the first at the lengths on each side of 32. -/
theorem witness_FromTextOutcomes :
    (List.replicate 31 (0x30#8)).length ≠ 32 ∧ (List.replicate 33 (0x30#8)).length ≠ 32
      ∧ ((ascii "g" ++ List.replicate 31 0x30).length = 32
          ∧ ∃ c ∈ ascii "g" ++ List.replicate 31 0x30, hexval c = none)
      ∧ ((List.replicate 32 (0x46#8)).length = 32 ∧ ∀ c ∈ List.replicate 32 (0x46#8), hexval c ≠ none) := by decide
theorem witness_TextsComeBackLowered :
    fromText (List.replicate 32 0x46) = .value 0xFFFFFFFFFFFFFFFFFFFFFFFFFFFFFFFF := by decide
/-- A running block: the hypothesis of PackCommandAnswers, TotextCommandAnswers, RawValuesPassThrough, EditpCommandAnswers
and SetCommandsWriteOneRegister. -/
theorem witness_RunningBlock : (probe 1 3).halted = false := by decide
theorem witness_FromtextCommandAnswers :
    (probe 1 3).halted = false ∧ (ascii "0123456789abcdefABCDEF0123456789").length = 32
      ∧ ∀ c ∈ ascii "0123456789abcdefABCDEF0123456789", digitValue c.toNat ≠ none := by decide
theorem witness_RetextLowersTheDigits :
    (probe 1 3).halted = false ∧ (ascii "BEEF1000200000000000100000000000").length = 32
      ∧ ∀ c ∈ ascii "BEEF1000200000000000100000000000", digitValue c.toNat ≠ none := by decide
theorem witness_FromtextWrongLength :
    (probe 1 3).halted = false ∧ (0#8).toNat ≠ 32 ∧ (31#8).toNat ≠ 32 ∧ (33#8).toNat ≠ 32 ∧ (255#8).toNat ≠ 32 := by decide
theorem witness_FromtextBadDigit :
    (probe 1 3).halted = false ∧ ∃ c ∈ List.replicate 31 (0x30#8) ++ [0x3A#8], hexval c = none := by decide
/-- Texts of 0, 31, 32 and 33 bytes are presented so. -/
theorem witness_PresentedTextParses :
    (probe 1 3).halted = false ∧ ∀ n ∈ [0, 31, 32, 33],
      (offeredLength (List.replicate n 0x61)).toNat = min (List.replicate n (0x61#8)).length 255
        ∧ ∀ i < 32, i < (List.replicate n (0x61#8)).length →
            (lanesOf (List.replicate n 0x61)).toList[i]? = (List.replicate n (0x61#8))[i]? := by decide
/-- And so is a text of any length, 255 and more bytes among them, whose offered length is 255. -/
theorem witness_PresentedTextParses_long (n : Nat) :
    (offeredLength (List.replicate n 0x61)).toNat = min (List.replicate n (0x61#8)).length 255
      ∧ ∀ i < 32, i < (List.replicate n (0x61#8)).length →
          (lanesOf (List.replicate n 0x61)).toList[i]? = (List.replicate n (0x61#8))[i]? := by
  refine ⟨by simp only [offeredLength, List.length_replicate, BitVec.toNat_ofNat]; omega, fun i hi h => ?_⟩
  simp at h
  simp [lanesOf, hi, h]

/-- A running block with both agents: GenCompletes, and with a second answer of the agents OneShotIsUsedOnce and
DefaultDeviceIdArrivesOneGenLate. -/
theorem witness_GenCompletes :
    (probe 1 3).halted = false ∧ (probe 1 3).agents.clkValid = true ∧ (probe 1 3).agents.rngValid = true
      ∧ bothAnswer.clkValid = true ∧ bothAnswer.rngValid = true := by decide
def noClock : State := { probe 1 3 with agents := { clkValid := false, clkUs := 1, rngValid := true } }
def noRandom : State := { probe 1 3 with agents := { clkValid := true, clkUs := 1, rngValid := false } }
/-- Either agent missing: GenHaltsWithoutAgents and the second part of OneShotIsUsedOnce. -/
theorem witness_GenHaltsWithoutAgents :
    (noClock.halted = false ∧ noClock.agents.clkValid = false)
      ∧ (noRandom.halted = false ∧ noRandom.agents.rngValid = false) := by decide
theorem witness_EightCommandsNeverFail :
    (probe 1 3).halted = false ∧ (∀ n x, Instr.pack 0 0 0 0 ≠ .fromtext n x) ∧ Instr.pack 0 0 0 0 ≠ .gen := by simp [probe]
theorem witness_HaltedCommandsAnswerFatal : stopped.halted = true := by decide
theorem witness_HaltOutranksDecoding :
    stopped.halted = true
      ∧ ({ stopped with pending := [.command { idlePorts with op := 0x7 } bothAnswer] } : State).pending
        = .command { idlePorts with op := 0x7 } bothAnswer :: [] := by decide
/-- The reserved values at the ends of their ranges. -/
theorem witness_ReservedOpcodeIsIllegal :
    (probe 1 3).halted = false ∧ ∀ op ∈ [(0x0 : U4), 0x7, 0xC, 0xF],
      op.toNat = 0x0 ∨ op.toNat = 0x7 ∨ 0xC ≤ op.toNat := by decide
/-- A halted block at which a command that is no reset is presented. -/
theorem witness_OnlyResetLeavesTheHalt :
    (∃ t, step { stopped with pending := [.command idlePorts bothAnswer] } = .next t) ∧ stopped.halted = true
      ∧ ∀ rest, ({ stopped with pending := [.command idlePorts bothAnswer] } : State).pending ≠ .reset :: rest :=
  ⟨⟨_, rfl⟩, rfl, by simp⟩
theorem witness_OnlyGenEntersTheHalt :
    ∃ t, step { probe 1 3 with pending := [.command { idlePorts with op := 0xB } noClock.agents] } = .next t
      ∧ (probe 1 3).halted = false ∧ t.halted = true :=
  ⟨_, rfl, rfl, rfl⟩
/-- A command presented and decoded: StepRunsDecodedInstruction, RandomSourceMovesOnlyOnTake (the GEN). -/
theorem witness_StepRunsDecodedInstruction :
    decode { idlePorts with op := 0xB } = .instr .gen
      ∧ ∃ t, step { probe 1 3 with pending := [.command { idlePorts with op := 0xB } bothAnswer] } = .next t :=
  ⟨by decide, _, rfl⟩
theorem witness_IdleBlockWaits : (probe 1 3).pending = [] := by decide
theorem witness_ResetRestoresNewGenerator :
    ({ stopped with pending := [.reset] } : State).pending = .reset :: [] := by decide
theorem witness_ReseedLeavesTheBlockAlone :
    ({ probe 1 3 with pending := [.reseed (Vector.replicate 32 0)] } : State).pending
        = .reseed (Vector.replicate 32 0) :: []
      ∧ ({ probe 1 3 with pending := [.reinitialise] } : State).pending = .reinitialise :: [] := by decide
theorem witness_FixedWordsAreShownInOrder :
    (probe 1 3).rng.upcoming = [3, 7] ∧ ([3, 7] : List U64)[1]? = some 7 := by decide
/-- No word is fixed at power-on, after a reseed, and after an initialisation from entropy. -/
theorem witness_RandomSourceFollowsItsStream :
    State.reset.rng.upcoming = [] ∧ ((probe 1 3).rng.reseed (Vector.replicate 32 0)).upcoming = []
      ∧ (probe 1 3).rng.reinitialise.upcoming = [] := by decide
/-- A step that writes all it can: RegisterWriters, and with a reset presented the other clauses. -/
theorem witness_RegisterWriters :
    (∃ t, step { probe 1 3 with pending := [.command { idlePorts with op := 0xA, hIn := 9 } bothAnswer] } = .next t
        ∧ t.deviceId = 9)
      ∧ ∃ t, step { probe 1 3 with pending := [.reset] } = .next t ∧ t.deviceId = 0 :=
  ⟨⟨_, rfl, rfl⟩, ⟨_, rfl, rfl⟩⟩
/-- Ports that differ outside the format of EDITP, and agents that differ; the opcode is not GEN's. -/
theorem witness_OtherPortsAreIgnored :
    agreeOnFormat { idlePorts with op := 0x6, valIn := 1, hIn := 2 } { idlePorts with op := 0x6, valIn := 1, hIn := 2, pIn := 9 }
      ∧ ((0x6 : U4) = 0xB#4 → bothAnswer = noClock.agents) := by
  unfold agreeOnFormat; decide
theorem witness_OnlyGenReadsTheState :
    Instr.totext 1 ≠ .gen ∧ (probe 1 3).halted = false ∧ (probe 2 4).halted = false := by decide
/-- Two states that agree on the five inputs only: counts and words that differ above their fields. -/
theorem witness_GenIsDeterminedByItsInputs :
    (probe 5 7).prefixReg = (probe 0x0001000000000005 0x0000100000000007).prefixReg
      ∧ (probe 5 7).deviceId = (probe 0x0001000000000005 0x0000100000000007).deviceId
      ∧ (probe 5 7).agents.clkUs.toNat % 2 ^ 48
        = (probe 0x0001000000000005 0x0000100000000007).agents.clkUs.toNat % 2 ^ 48
      ∧ (probe 5 7).rng.word.toNat % 2 ^ 44
        = (probe 0x0001000000000005 0x0000100000000007).rng.word.toNat % 2 ^ 44
      ∧ (probe 5 7).halted = false ∧ (probe 5 7).agents.clkValid = true ∧ (probe 5 7).agents.rngValid = true
      ∧ (probe 0x0001000000000005 0x0000100000000007).halted = false
      ∧ (probe 0x0001000000000005 0x0000100000000007).agents.clkValid = true
      ∧ (probe 0x0001000000000005 0x0000100000000007).agents.rngValid = true := by decide
theorem witness_VersionCodeIsAlwaysOne :
    (∃ t r v, step { probe 1 3 with pending := [.command { idlePorts with op := 0x1 } bothAnswer] } = .next t
        ∧ t.response = some r ∧ r.valOut = some v)
      ∧ ∃ t r v, step { probe 1 3 with pending := [.command { idlePorts with op := 0xB } bothAnswer] } = .next t
        ∧ t.response = some r ∧ r.valOut = some v :=
  ⟨⟨_, _, _, rfl, rfl, rfl⟩, ⟨_, _, _, rfl, rfl, rfl⟩⟩
theorem witness_GenwithPacksItsOperands :
    (probe 1 3).halted = false ∧ bothAnswer.clkValid = true ∧ bothAnswer.rngValid = true
      ∧ ({ probe 1 3 with pending := pseudoGenwith 0xAB 2 bothAnswer } : State).pending
        = pseudoGenwith 0xAB 2 bothAnswer ++ [] := by decide
theorem witness_DecodeOfEncode :
    (Instr.pack 1 2 3 4).wellFormed = true ∧ (Instr.fromtext 32 (List.replicate 32 0x30)).wellFormed = true := by decide
/-- A halted state that meets the invariant, and one that does not halt, each with a step. -/
theorem witness_EveryStepKeepsInvariant :
    ({ stopped with response := some ⟨.fatal, none, none, false⟩ } : State).Inv
      ∧ (probe 1 3).Inv ∧ ∃ t, step (probe 1 3) = .next t := by
  refine ⟨⟨by simp [stopped], ?_⟩, ⟨by simp [probe], by simp [probe]⟩, _, rfl⟩
  rintro _ ⟨⟩
  exact ⟨by simp, by simp, by simp, by simp⟩

end Sys2Proof.Tests
end

section
/-! PROOFS. The block's state (spec/10_state.md): what one command and one step can do, each said once, and the statements
about registers, the halt and reset that follow from it. -/

namespace Sys2Proof.Machine

/-! ### What a command does in a running block -/

/-- A command's effect in a running block, without the guard of R76 that `exec` puts before it. -/
def effectOf (i : Instr) (s : State) : State :=
  match i with
  | .pack p d t r => s.respond (okValue (pack p d t r))
  | .totext v => s.respond (okText (toText v))
  | .fromtext n x => s.respondParsed (parse (n == 32#8) x)
  | .toraw v => s.respond (okValue v)
  | .fromraw v => s.respond (okValue v)
  | .editp v h => s.respond (okValue (editPrefix v h))
  | .setdd h => (s.writeDefaultDeviceId h).respond okDone
  | .setp h => (s.writePrefix h).respond okDone
  | .setd h => (s.writeDeviceId h).respond okDone
  | .gen =>
    if s.agents.clkValid = false then s.raise .fatal
    else if s.agents.rngValid = false then s.raise .fatal
    else s.oneShotReset.takeWord.respond (okGenerated s.generated)

/-- The effect of what the decoder read: a command's, or the answer to a reserved opcode (R42). -/
def decodedEffect (d : Decoded) (s : State) : State :=
  match d with
  | .instr i => effectOf i s
  | .reserved _ => s.raise .illegalCommand

/-- Every command is its effect under the one guard of R76. -/
theorem exec_eq_whenRunning (i : Instr) (s : State) : exec i s = whenRunning s (effectOf i s) := by
  cases i <;> rfl

theorem exec_of_running (i : Instr) {s : State} (h : s.halted = false) : exec i s = .next (effectOf i s) := by
  rw [exec_eq_whenRunning, whenRunning_of_running h]

theorem raise_eq_respond (s : State) {e : Status} (he : e ≠ .fatal) : s.raise e = s.respond (failed e) :=
  raise_recoverable s he

theorem respondParsed_eq_respond (s : State) (x : Parsed) : s.respondParsed x = s.respond (parsedResponse x) := by
  cases x with
  | value v => rfl
  | invalidLength => exact raise_eq_respond s (by decide)
  | invalidFormat => exact raise_eq_respond s (by decide)

theorem effectOf_gen_completes {s : State} (hclk : s.agents.clkValid = true) (hrng : s.agents.rngValid = true) :
    effectOf .gen s = s.oneShotReset.takeWord.respond (okGenerated s.generated) := by
  simp [effectOf, hclk, hrng]

theorem effectOf_gen_fails {s : State} (h : s.agents.clkValid = false ∨ s.agents.rngValid = false) :
    effectOf .gen s = s.raise .fatal := by
  rcases h with h | h <;> simp [effectOf, h]

/-- The response of a command other than GEN is fixed by the command alone (R94). -/
theorem exists_response_of_ne_gen {i : Instr} (hi : i ≠ .gen) :
    ∃ r : Response, ∀ s : State, (effectOf i s).response = some r := by
  cases i with
  | fromtext n x => exact ⟨parsedResponse (parse (n == 32#8) x), fun s => by simp [effectOf, respondParsed_eq_respond]⟩
  | gen => exact absurd rfl hi
  | _ => exact ⟨_, fun _ => rfl⟩

/-- What a presented command can do in a running block, by the registers and the flag that it writes: the set commands
write one register each (R59 to R61), a GEN completes (R62, R63) or halts the block (R74), and every other value of `op`
only answers. -/
inductive CommandCase (p : Ports) (s : State) : State → Prop where
  | setdd (hop : p.op = 0x8#4) : CommandCase p s ((s.writeDefaultDeviceId p.hIn).respond okDone)
  | setp (hop : p.op = 0x9#4) : CommandCase p s ((s.writePrefix p.hIn).respond okDone)
  | setd (hop : p.op = 0xA#4) : CommandCase p s ((s.writeDeviceId p.hIn).respond okDone)
  | genCompletes (hop : p.op = 0xB#4) (hclk : s.agents.clkValid = true) (hrng : s.agents.rngValid = true) :
      CommandCase p s (s.oneShotReset.takeWord.respond (okGenerated s.generated))
  | genFails (hop : p.op = 0xB#4) (hagent : s.agents.clkValid = false ∨ s.agents.rngValid = false) :
      CommandCase p s (s.raise .fatal)
  | answers (r : Response) : CommandCase p s (s.respond r)

theorem commandCase_gen {p : Ports} (s : State) (hop : p.op = 0xB#4) : CommandCase p s (effectOf .gen s) := by
  by_cases hagents : s.agents.clkValid = true ∧ s.agents.rngValid = true
  · obtain ⟨hclk, hrng⟩ := hagents
    rw [effectOf_gen_completes hclk hrng]
    exact .genCompletes hop hclk hrng
  · have hagent : s.agents.clkValid = false ∨ s.agents.rngValid = false := by
      simpa only [Decidable.not_and_iff_or_not, Bool.not_eq_true] using hagents
    rw [effectOf_gen_fails hagent]
    exact .genFails hop hagent

theorem commandCase_decode (p : Ports) (s : State) : CommandCase p s (decodedEffect (decode p) s) := by
  rcases op_cases p.op with h | h | h | h | h | h | h | h | h | h | h
  · rw [decode_pack h]; exact .answers _
  · rw [decode_totext h]; exact .answers _
  · rw [decode_fromtext h, decodedEffect, effectOf, respondParsed_eq_respond]; exact .answers _
  · rw [decode_toraw h]; exact .answers _
  · rw [decode_fromraw h]; exact .answers _
  · rw [decode_editp h]; exact .answers _
  · rw [decode_setdd h]; exact .setdd h
  · rw [decode_setp h]; exact .setp h
  · rw [decode_setd h]; exact .setd h
  · rw [decode_gen h]; exact commandCase_gen s h
  · rw [decode_reserved h, decodedEffect, raise_eq_respond s (by decide)]; exact .answers _

/-! ### What a step does -/

/-- The block with a presented command taken up, and the agents' ports of that step shown. -/
def State.takeUp (s : State) (a : AgentPorts) (rest : List HostAction) : State := (s.consume rest).sample a

@[simp] theorem State.takeUp_prefixReg (s : State) (a : AgentPorts) (rest : List HostAction) :
    (s.takeUp a rest).prefixReg = s.prefixReg := rfl
@[simp] theorem State.takeUp_deviceId (s : State) (a : AgentPorts) (rest : List HostAction) :
    (s.takeUp a rest).deviceId = s.deviceId := rfl
@[simp] theorem State.takeUp_defaultDeviceId (s : State) (a : AgentPorts) (rest : List HostAction) :
    (s.takeUp a rest).defaultDeviceId = s.defaultDeviceId := rfl
@[simp] theorem State.takeUp_halted (s : State) (a : AgentPorts) (rest : List HostAction) :
    (s.takeUp a rest).halted = s.halted := rfl
@[simp] theorem State.takeUp_response (s : State) (a : AgentPorts) (rest : List HostAction) :
    (s.takeUp a rest).response = s.response := rfl
@[simp] theorem State.takeUp_agents (s : State) (a : AgentPorts) (rest : List HostAction) :
    (s.takeUp a rest).agents = a := rfl
@[simp] theorem State.takeUp_rng (s : State) (a : AgentPorts) (rest : List HostAction) :
    (s.takeUp a rest).rng = s.rng := rfl
@[simp] theorem State.takeUp_pending (s : State) (a : AgentPorts) (rest : List HostAction) :
    (s.takeUp a rest).pending = rest := rfl

/-- A step at a presented command, reserved opcodes included, is the decoded effect under the guard of R76. -/
theorem step_command {s : State} {p : Ports} {a : AgentPorts} {rest : List HostAction}
    (hp : s.pending = .command p a :: rest) :
    step s = whenRunning (s.takeUp a rest) (decodedEffect (decode p) (s.takeUp a rest)) := by
  unfold step
  rw [hp]
  cases hd : decode p with
  | instr i => simp only [hd]; exact exec_eq_whenRunning i _
  | reserved op => simp only [hd]; rfl

theorem step_idle {s : State} (hp : s.pending = []) : step s = .next s := by
  simp [step, hp]

theorem step_reset {s : State} {rest : List HostAction} (hp : s.pending = .reset :: rest) :
    step s = .next (s.consume rest).resetBlock := by
  simp [step, hp]

theorem step_reseed {s : State} {k : Vector Byte 32} {rest : List HostAction} (hp : s.pending = .reseed k :: rest) :
    step s = .next ((s.consume rest).reseed k) := by
  simp [step, hp]

theorem step_reinitialise {s : State} {rest : List HostAction} (hp : s.pending = .reinitialise :: rest) :
    step s = .next (s.consume rest).reinitialise := by
  simp [step, hp]

/-- All that a step can do, by the host's next action and, at a command, by the guard. -/
inductive StepCase (s : State) : State → Prop where
  | idle (hp : s.pending = []) : StepCase s s
  | halted {p a rest} (hp : s.pending = .command p a :: rest) (hs : s.halted = true) :
      StepCase s ((s.takeUp a rest).raise .fatal)
  | running {p a rest} (hp : s.pending = .command p a :: rest) (hs : s.halted = false) :
      StepCase s (decodedEffect (decode p) (s.takeUp a rest))
  | reset {rest} (hp : s.pending = .reset :: rest) : StepCase s (s.consume rest).resetBlock
  | reseed {k rest} (hp : s.pending = .reseed k :: rest) : StepCase s ((s.consume rest).reseed k)
  | reinitialise {rest} (hp : s.pending = .reinitialise :: rest) : StepCase s (s.consume rest).reinitialise

theorem step_eq_next_of_stepCase {s t : State} (h : StepCase s t) : step s = .next t := by
  cases h with
  | idle hp => exact step_idle hp
  | halted hp hs => rw [step_command hp, whenRunning_of_halted (by simpa using hs)]
  | running hp hs => rw [step_command hp, whenRunning_of_running (by simpa using hs)]
  | reset hp => exact step_reset hp
  | reseed hp => exact step_reseed hp
  | reinitialise hp => exact step_reinitialise hp

theorem exists_stepCase (s : State) : ∃ t : State, StepCase s t := by
  cases hp : s.pending with
  | nil => exact ⟨_, .idle hp⟩
  | cons act rest =>
    cases act with
    | command p a =>
      cases hs : s.halted with
      | false => exact ⟨_, .running hp hs⟩
      | true => exact ⟨_, .halted hp hs⟩
    | reset => exact ⟨_, .reset hp⟩
    | reseed k => exact ⟨_, .reseed hp⟩
    | reinitialise => exact ⟨_, .reinitialise hp⟩

/-- The inversion of a step: the cases of `StepCase` are exactly what it can do. -/
theorem step_eq_next_iff {s t : State} : step s = .next t ↔ StepCase s t := by
  refine ⟨fun h => ?_, step_eq_next_of_stepCase⟩
  obtain ⟨u, hu⟩ := exists_stepCase s
  cases (step_eq_next_of_stepCase hu).symm.trans h
  exact hu

/-! ### The halt -/

/-- Settles O33, by the cases of a step: a command of a halted block only raises `Fatal`, and the actions on the random
source touch nothing of the block. -/
theorem onlyResetLeavesTheHalt : Obligations.OnlyResetLeavesTheHalt := by
  intro s t hstep hhalted hnoReset
  cases step_eq_next_iff.mp hstep with
  | idle hp => simp [hhalted]
  | halted hp hs => simp
  | running hp hs => simp [hhalted] at hs
  | reset hp => exact absurd hp (hnoReset _)
  | reseed hp => simp [hhalted, hp]
  | reinitialise hp => simp [hhalted, hp]

/-- A presented command halts a running block only as a GEN that lacks an agent. -/
theorem CommandCase.gen_of_halted {p : Ports} {s t : State} (h : CommandCase p s t) (hs : s.halted = false)
    (ht : t.halted = true) : p.op = 0xB#4 ∧ (s.agents.clkValid = false ∨ s.agents.rngValid = false) := by
  cases h with
  | genFails hop hagent => exact ⟨hop, hagent⟩
  | _ => simp [hs] at ht

/-- Settles O34, by the cases of a step: only a presented command can set the flag, and among those only a GEN. -/
theorem onlyGenEntersTheHalt : Obligations.OnlyGenEntersTheHalt := by
  intro s t hstep hrunning ht
  cases step_eq_next_iff.mp hstep with
  | @running p a rest hp hs => exact ⟨p, a, rest, hp, (commandCase_decode p (s.takeUp a rest)).gen_of_halted hs ht⟩
  | halted hp hs => simp [hrunning] at hs
  | _ => simp [hrunning] at ht

/-! ### The registers -/

/-- Settles O44, by the cases of a step and, at a command of a running block, of the command. -/
theorem registerWriters : Obligations.RegisterWriters := by
  intro s t hstep
  cases step_eq_next_iff.mp hstep with
  | reset hp => exact ⟨.inr (.inl ⟨_, hp, rfl⟩), .inr (.inl ⟨_, hp, rfl⟩), .inr (.inl ⟨_, hp, rfl⟩)⟩
  | @running p a rest hp hs =>
    have hcase := commandCase_decode p (s.takeUp a rest)
    generalize decodedEffect (decode p) (s.takeUp a rest) = t at hcase ⊢
    cases hcase with
    | setdd hop => exact ⟨.inl rfl, .inl rfl, .inr (.inr ⟨p, a, rest, hp, hs, hop, rfl⟩)⟩
    | setp hop => exact ⟨.inr (.inr ⟨p, a, rest, hp, hs, .inl ⟨hop, rfl⟩⟩), .inl rfl, .inl rfl⟩
    | setd hop => exact ⟨.inl rfl, .inr (.inr ⟨p, a, rest, hp, hs, .inl ⟨hop, rfl⟩⟩), .inl rfl⟩
    | genCompletes hop hclk hrng =>
      exact ⟨.inr (.inr ⟨p, a, rest, hp, hs, .inr ⟨hop, hclk, hrng, rfl⟩⟩),
        .inr (.inr ⟨p, a, rest, hp, hs, .inr ⟨hop, hclk, hrng, rfl⟩⟩), .inl rfl⟩
    | _ => exact ⟨.inl rfl, .inl rfl, .inl rfl⟩
  | _ => exact ⟨.inl rfl, .inl rfl, .inl rfl⟩

/-- Settles O46: the response of a command other than GEN is fixed by the command alone. -/
theorem onlyGenReadsTheState : Obligations.OnlyGenReadsTheState := by
  intro i s s' hi hs hs'
  obtain ⟨r, hr⟩ := exists_response_of_ne_gen hi
  exact ⟨_, _, exec_of_running i hs, exec_of_running i hs', (hr s).trans (hr s').symm⟩

/-! ### Power-on -/

@[simp] theorem State.reset_halted : State.reset.halted = false := rfl
@[simp] theorem State.reset_response : State.reset.response = none := rfl

/-- Settles O39: the table of R20, field by field. -/
theorem powerOnState : Obligations.PowerOnState :=
  ⟨rfl, rfl, rfl, State.reset_halted, State.reset_response, by simp [State.rngTakeOut]⟩

/-- Settles O57: no response is pending at power-on, so none is `Fatal` and none is incoherent. -/
theorem invariantHoldsAtReset : Obligations.InvariantHoldsAtReset where
  haltedIffFatal := by simp
  responseCoherent := by simp

end Sys2Proof.Machine
end

section
/-! PROOFS. The encodings (spec/30_encoding.md): what the encoder drives and the decoder reads, what the ports outside a
format cannot change, operand assembly, the digits of the text form, and the pseudo-instructions. -/

namespace Sys2Proof.Machine

/-! ### The encoder and the decoder -/

/-- Thirty-two bytes fill the lanes exactly (R22, R54). -/
theorem lanesOf_toList_of_length {s : Text} (hs : s.length = 32) : (lanesOf s).toList = s := by
  refine List.ext_getElem ((lanesOf_toList_length s).trans hs.symm) fun i _ hi => ?_
  rw [Vector.getElem_toList, lanesOf_getElem s (hs ▸ hi), List.getD_eq_getElem s 0 hi]

/-- Settles O53, command by command: the encoder drives the command's opcode, and the decoder takes the operands back
from the same ports. Only FROMTEXT needs well-formedness, for its bytes to be the 32 lanes. -/
theorem decodeOfEncode : Obligations.DecodeOfEncode := by
  intro i hwf
  cases i with
  | pack p d t r => exact decode_pack rfl
  | totext v => exact decode_totext rfl
  | fromtext n s =>
    have hlength : s.length = 32 := by simpa [Instr.wellFormed] using hwf
    have hdecode : decode (encode (.fromtext n s)) = .instr (.fromtext n (lanesOf s).toList) := decode_fromtext rfl
    rwa [lanesOf_toList_of_length hlength] at hdecode
  | toraw v => exact decode_toraw rfl
  | fromraw v => exact decode_fromraw rfl
  | editp v h => exact decode_editp rfl
  | setdd h => exact decode_setdd rfl
  | setp h => exact decode_setp rfl
  | setd h => exact decode_setd rfl
  | gen => exact decode_gen rfl

/-- Settles O55: each word by the lemma of its opcode. -/
theorem decodeWords : Obligations.DecodeWords :=
  ⟨decode_pack rfl, decode_editp rfl, decode_setp rfl, decode_gen rfl, decode_reserved rfl⟩

/-- The six reserved values by their numbers (R42). -/
theorem reservedOp_iff (op : U4) :
    reservedOp op = true ↔ op.toNat = 0x0 ∨ op.toNat = 0x7 ∨ 0xC ≤ op.toNat := by
  revert op; decide

/-- What the decoder reads from ports whose `op` is not reserved: a command that the ports can carry, with that opcode
(R39, R40). -/
theorem exists_decode_eq_instr {p : Ports} (hop : reservedOp p.op = false) :
    ∃ i : Instr, decode p = .instr i ∧ i.wellFormed = true ∧ opcode i = p.op := by
  rcases op_cases p.op with h | h | h | h | h | h | h | h | h | h | h
  · exact ⟨_, decode_pack h, rfl, h.symm⟩
  · exact ⟨_, decode_totext h, rfl, h.symm⟩
  · exact ⟨_, decode_fromtext h, by simp [Instr.wellFormed], h.symm⟩
  · exact ⟨_, decode_toraw h, rfl, h.symm⟩
  · exact ⟨_, decode_fromraw h, rfl, h.symm⟩
  · exact ⟨_, decode_editp h, rfl, h.symm⟩
  · exact ⟨_, decode_setdd h, rfl, h.symm⟩
  · exact ⟨_, decode_setp h, rfl, h.symm⟩
  · exact ⟨_, decode_setd h, rfl, h.symm⟩
  · exact ⟨_, decode_gen h, rfl, h.symm⟩
  · simp [hop] at h

/-- Settles O54: `op` is one of the six reserved values or the opcode of the command that the decoder reads. -/
theorem decodingIsTotal : Obligations.DecodingIsTotal := by
  intro p
  rw [← reservedOp_iff]
  cases hop : reservedOp p.op with
  | false =>
    obtain ⟨i, hdecode, hwf, hopcode⟩ := exists_decode_eq_instr hop
    exact .inl ⟨i, hdecode, hwf, hopcode, Bool.false_ne_true⟩
  | true => exact .inr ⟨decode_reserved hop, rfl⟩

theorem opcode_of_decode_eq_instr {p : Ports} {i : Instr} (h : decode p = .instr i) : opcode i = p.op := by
  cases hop : reservedOp p.op with
  | false =>
    obtain ⟨j, hdecode, -, hopcode⟩ := exists_decode_eq_instr hop
    cases h.symm.trans hdecode
    exact hopcode
  | true => cases h.symm.trans (decode_reserved hop)

/-- Settles O31: the decoder reads no command from a reserved opcode, and the error raised instead is recoverable. -/
theorem reservedOpcodeIsIllegal : Obligations.ReservedOpcodeIsIllegal := by
  intro s p a rest hrunning hp hop
  rw [step_command hp, decode_reserved ((reservedOp_iff p.op).mpr hop),
    whenRunning_of_running (by simpa using hrunning)]
  exact congrArg _ (raise_recoverable (s.takeUp a rest) (by decide))

/-! ### Ports outside the format -/

/-- The decoder looks at `op` and the ports of its format only (R38, R41). -/
theorem decode_eq_of_agreeOnFormat {p q : Ports} (h : agreeOnFormat p q) : decode p = decode q := by
  obtain ⟨hop, hP, hV, hT, hH⟩ := h
  rcases op_cases p.op with h | h | h | h | h | h | h | h | h | h | h
  · obtain ⟨hp, hd, ht, hr⟩ := hP h
    rw [decode_pack h, decode_pack (hop ▸ h), hp, hd, ht, hr]
  · rw [decode_totext h, decode_totext (hop ▸ h), hV (by simp [h])]
  · obtain ⟨hlen, hlanes⟩ := hT h
    rw [decode_fromtext h, decode_fromtext (hop ▸ h), hlen, hlanes]
  · rw [decode_toraw h, decode_toraw (hop ▸ h), hV (by simp [h])]
  · rw [decode_fromraw h, decode_fromraw (hop ▸ h), hV (by simp [h])]
  · rw [decode_editp h, decode_editp (hop ▸ h), hV (by simp [h]), hH (by simp [h])]
  · rw [decode_setdd h, decode_setdd (hop ▸ h), hH (by simp [h])]
  · rw [decode_setp h, decode_setp (hop ▸ h), hH (by simp [h])]
  · rw [decode_setd h, decode_setd (hop ▸ h), hH (by simp [h])]
  · rw [decode_gen h, decode_gen (hop ▸ h)]
  · rw [decode_reserved h, decode_reserved (hop ▸ h), hop]

/-- No command drives the agents' ports (R15, R19). -/
theorem decodedEffect_decode_agents (p : Ports) (s : State) : (decodedEffect (decode p) s).agents = s.agents := by
  have hcase := commandCase_decode p s
  generalize decodedEffect (decode p) s = t at hcase ⊢
  cases hcase <;> rfl

/-- Only GEN looks at the agents' ports (R41). -/
theorem decodedEffect_sample {d : Decoded} (hd : d ≠ .instr .gen) (s : State) (b : AgentPorts) :
    decodedEffect d (s.sample b) = (decodedEffect d s).sample b := by
  cases d with
  | reserved op => rfl
  | instr i =>
    cases i with
    | fromtext n x => simp only [decodedEffect, effectOf, respondParsed_eq_respond]; rfl
    | gen => exact absurd rfl hd
    | _ => rfl

/-- Ports that decode alike give the same effect, but for the agents' ports that stay visible. -/
theorem decodedEffect_takeUp_sample {p : Ports} {a b : AgentPorts} (hgen : p.op = 0xB#4 → a = b) (s : State)
    (rest : List HostAction) :
    decodedEffect (decode p) (s.takeUp b rest) = (decodedEffect (decode p) (s.takeUp a rest)).sample b := by
  by_cases hd : decode p = .instr .gen
  · obtain rfl := hgen (opcode_of_decode_eq_instr hd).symm
    generalize ht : decodedEffect (decode p) (s.takeUp a rest) = t
    have hagents : t.agents = a := ht ▸ decodedEffect_decode_agents p _
    simp only [State.sample, ← hagents]
  · exact decodedEffect_sample hd (s.takeUp a rest) b

/-- Settles O45: both settings decode alike, so that they differ in the agents' ports only, which a halted block and a
command other than GEN do not look at. -/
theorem otherPortsAreIgnored : Obligations.OtherPortsAreIgnored := by
  intro s p q a b rest hformat hgen
  rw [step_command rfl, step_command rfl, ← decode_eq_of_agreeOnFormat hformat]
  cases hs : s.halted with
  | true => exact ⟨_, whenRunning_of_halted rfl _, whenRunning_of_halted rfl _⟩
  | false =>
    refine ⟨_, whenRunning_of_running rfl _, ?_⟩
    rw [whenRunning_of_running rfl, decodedEffect_takeUp_sample hgen]
    rfl

/-! ### Operand assembly -/

/-- A placed operand is the low `width` bits of the operand, weighted by the field's offset (R43). -/
theorem place_toNat {w width shift : Nat} (x : BitVec w) (hw : w ≤ 128) (hfit : shift + width ≤ 128) :
    (place x width shift).toNat = x.toNat % 2 ^ width * 2 ^ shift := by
  have hmask : (2 ^ width - 1) % 2 ^ 128 = 2 ^ width - 1 :=
    Nat.mod_eq_of_lt (lt_of_lt_of_le (Nat.sub_one_lt (by positivity)) (Nat.pow_le_pow_right (by omega) (by omega)))
  have hx : x.toNat < 2 ^ 128 := lt_of_lt_of_le x.isLt (Nat.pow_le_pow_right (by omega) hw)
  have hfield : x.toNat % 2 ^ width * 2 ^ shift < 2 ^ 128 := calc
    x.toNat % 2 ^ width * 2 ^ shift < 2 ^ width * 2 ^ shift :=
      Nat.mul_lt_mul_of_pos_right (Nat.mod_lt _ (by positivity)) (by positivity)
    _ = 2 ^ (width + shift) := (Nat.pow_add ..).symm
    _ ≤ 2 ^ 128 := Nat.pow_le_pow_right (by omega) (by omega)
  simp only [place, BitVec.toNat_shiftLeft, BitVec.toNat_and, BitVec.toNat_setWidth, BitVec.toNat_ofNat, hmask,
    Nat.mod_eq_of_lt hx, Nat.and_two_pow_sub_one_eq_mod, Nat.shiftLeft_eq, Nat.mod_eq_of_lt hfield]

/-- A placed operand has no bit outside its field (R33, R43). -/
theorem place_getLsbD_outside {w width shift i : Nat} (x : BitVec w) (hi : i < shift ∨ shift + width ≤ i) :
    (place x width shift).getLsbD i = false := by
  rcases hi with hi | hi
  · simp [place, hi]
  · have hwidth : ¬ i - shift < width := by omega
    simp [place, BitVec.getLsbD_ofNat, Nat.testBit_two_pow_sub_one, hwidth]

/-- Operands placed in fields one above the other share no bit (R33). -/
theorem place_and_place {w w' width width' shift shift' : Nat} (x : BitVec w) (y : BitVec w')
    (hbelow : shift' + width' ≤ shift) : place x width shift &&& place y width' shift' = 0 := by
  refine BitVec.eq_of_getLsbD_eq fun i _ => ?_
  rw [BitVec.getLsbD_and]
  by_cases hi : i < shift
  · simp [place_getLsbD_outside x (.inl hi)]
  · simp [place_getLsbD_outside y (.inr (by omega : shift' + width' ≤ i))]

theorem getLsbD_ofNat_two_pow_sub_one (w width i : Nat) :
    (BitVec.ofNat w (2 ^ width - 1)).getLsbD i = (decide (i < w) && decide (i < width)) := by
  rw [BitVec.getLsbD_ofNat, Nat.testBit_two_pow_sub_one]

/-- An operand as wide as its field is placed whole. -/
theorem place_of_width_eq {w : Nat} (x : BitVec w) (shift : Nat) : place x w shift = x.setWidth 128 <<< shift := by
  have hmask : x.setWidth 128 &&& BitVec.ofNat 128 (2 ^ w - 1) = x.setWidth 128 := by
    refine BitVec.eq_of_getLsbD_eq fun i hi => ?_
    rw [BitVec.getLsbD_and, BitVec.getLsbD_setWidth, getLsbD_ofNat_two_pow_sub_one]
    by_cases hiw : i < w
    · simp [hiw, hi]
    · simp [BitVec.getLsbD_of_ge x i (by omega)]
  rw [place, hmask]

/-- A wider operand may be masked before it is extended. -/
theorem place_of_width_le {w width : Nat} (x : BitVec w) (shift : Nat) (h : width ≤ w) :
    place x width shift = (x &&& BitVec.ofNat w (2 ^ width - 1)).setWidth 128 <<< shift := by
  have hmask : x.setWidth 128 &&& BitVec.ofNat 128 (2 ^ width - 1)
      = (x &&& BitVec.ofNat w (2 ^ width - 1)).setWidth 128 := by
    refine BitVec.eq_of_getLsbD_eq fun i hi => ?_
    simp only [BitVec.getLsbD_and, BitVec.getLsbD_setWidth, getLsbD_ofNat_two_pow_sub_one, hi]
    by_cases hiw : i < width
    · simp [hiw, (by omega : i < w)]
    · simp [hiw]
  rw [place, hmask]

/-- The packing function is the or of its five placed operands (R43, R48). -/
theorem pack_eq_or_place (p d : U16) (t r : U64) :
    pack p d t r = place p 16 112 ||| place 1#4 4 108 ||| place d 16 92 ||| place t 48 44 ||| place r 44 0 := by
  rw [place_of_width_eq p, place_of_width_eq 1#4, place_of_width_eq d, place_of_width_le t 44 (by decide),
    place_of_width_le r 0 (by decide), BitVec.shiftLeft_zero]
  rfl

/-- The placed operands are added without a carry, since each lies below those before it (R33, R43). -/
theorem pack_eq_add_place (p d : U16) (t r : U64) :
    pack p d t r = place p 16 112 + place 1#4 4 108 + place d 16 92 + place t 48 44 + place r 44 0 := by
  have hversion : place p 16 112 &&& place 1#4 4 108 = 0 := place_and_place _ _ (by decide)
  have hdevice : (place p 16 112 ||| place 1#4 4 108) &&& place d 16 92 = 0 := by
    simp [BitVec.and_or_distrib_right, place_and_place]
  have htime : (place p 16 112 ||| place 1#4 4 108 ||| place d 16 92) &&& place t 48 44 = 0 := by
    simp [BitVec.and_or_distrib_right, place_and_place]
  have hrandom : (place p 16 112 ||| place 1#4 4 108 ||| place d 16 92 ||| place t 48 44) &&& place r 44 0 = 0 := by
    simp [BitVec.and_or_distrib_right, place_and_place]
  rw [pack_eq_or_place, BitVec.add_eq_or_of_and_eq_zero _ _ hversion, BitVec.add_eq_or_of_and_eq_zero _ _ hdevice,
    BitVec.add_eq_or_of_and_eq_zero _ _ htime, BitVec.add_eq_or_of_and_eq_zero _ _ hrandom]

/-- Settles O8: each field begins where the one below it ends, or above. -/
theorem placedOperandsAddWithoutCarry : Obligations.PlacedOperandsAddWithoutCarry := by
  intro p d t r
  refine ⟨pack_eq_add_place p d t r, pack_eq_or_place p d t r, ?_⟩
  refine ⟨?_, ?_, ?_, ?_, ?_, ?_, ?_, ?_, ?_, ?_⟩ <;> exact place_and_place _ _ (by decide)

/-- The packed value as a number: the spec's sum of weighted fields (R48). -/
theorem pack_toNat (p d : U16) (t r : U64) : (pack p d t r).toNat = packedNumber p d t r := by
  have hp : (place p 16 112).toNat = p.toNat * 2 ^ 112 := by
    rw [place_toNat p (by decide) (by decide), Nat.mod_eq_of_lt p.isLt]
  have hversion : (place 1#4 4 108).toNat = 2 ^ 108 := place_toNat 1#4 (by decide) (by decide)
  have hd : (place d 16 92).toNat = d.toNat * 2 ^ 92 := by
    rw [place_toNat d (by decide) (by decide), Nat.mod_eq_of_lt d.isLt]
  have ht : (place t 48 44).toNat = t.toNat % 2 ^ 48 * 2 ^ 44 := place_toNat t (by decide) (by decide)
  have hr : (place r 44 0).toNat = r.toNat % 2 ^ 44 := by
    rw [place_toNat r (by decide) (by decide), Nat.pow_zero, Nat.mul_one]
  have hplt : p.toNat < 2 ^ 16 := p.isLt
  have hdlt : d.toNat < 2 ^ 16 := d.isLt
  rw [pack_eq_add_place, BitVec.toNat_add, BitVec.toNat_add, BitVec.toNat_add, BitVec.toNat_add, hp, hversion, hd, ht,
    hr, packedNumber]
  omega

/-- Masking the time and the random word first does not change the packed value (R48, R62). -/
theorem pack_masked (p d : U16) (t r : U64) :
    pack p d (t &&& Config.mask48) (r &&& Config.mask44) = pack p d t r := by
  simp only [pack, BitVec.and_assoc, BitVec.and_self]

theorem generated_eq_pack (s : State) : s.generated = pack s.prefixReg s.deviceId s.agents.clkUs s.rng.word :=
  pack_masked ..

/-- A packed value has version code 1 (R34). -/
theorem pack_extract_version (p d : U16) (t r : U64) : (pack p d t r).extractLsb' 108 4 = 1#4 := by
  refine BitVec.eq_of_toNat_eq ?_
  have hplt : p.toNat < 2 ^ 16 := p.isLt
  have hdlt : d.toNat < 2 ^ 16 := d.isLt
  rw [BitVec.extractLsb'_toNat, pack_toNat, packedNumber, Nat.shiftRight_eq_div_pow, BitVec.toNat_ofNat]
  omega

/-! ### The version code -/

/-- A GEN returns no value but the identifier that it made (R62, R78). -/
theorem effectOf_gen_value {s : State} {r : Response} {v : U128} (hr : (effectOf .gen s).response = some r)
    (hv : r.valOut = some v) : v = s.generated := by
  cases hclk : s.agents.clkValid with
  | false =>
    rw [effectOf_gen_fails (.inl hclk)] at hr
    cases hr
    cases hv
  | true =>
    cases hrng : s.agents.rngValid with
    | false =>
      rw [effectOf_gen_fails (.inr hrng)] at hr
      cases hr
      cases hv
    | true =>
      rw [effectOf_gen_completes hclk hrng] at hr
      cases hr
      cases hv
      rfl

/-- Settles O48: what PACK and GEN return is a packed value, and a halted block returns none. -/
theorem versionCodeIsAlwaysOne : Obligations.VersionCodeIsAlwaysOne := by
  intro s t p a rest r v hp hop hstep hr hv
  rw [step_command hp] at hstep
  rcases whenRunning_cases (s.takeUp a rest) (decodedEffect (decode p) (s.takeUp a rest)) with ⟨-, h⟩ | ⟨-, h⟩
  · cases hstep.symm.trans h
    rcases hop with hop | hop
    · rw [decode_pack hop] at hr
      cases hr
      cases hv
      exact pack_extract_version ..
    · rw [decode_gen hop] at hr
      rw [effectOf_gen_value hr hv, generated_eq_pack]
      exact pack_extract_version ..
  · cases hstep.symm.trans h
    cases hr
    cases hv

/-! ### The pseudo-instruction GENWITH -/

/-- A run of three steps goes through the states that the steps answer. -/
theorem run_three_steps {s t u v : State} (hst : step s = .next t) (htu : step t = .next u) (huv : step u = .next v) :
    Host.Core.run core 3 s = .next v := by
  have hst' : core.step s = .next t := hst
  have htu' : core.step t = .next u := htu
  have huv' : core.step u = .next v := huv
  simp only [Host.Core.run, hst', htu', huv']

/-- A running block at a command that the host presents does the command's effect. -/
theorem step_present {s : State} {i : Instr} {a : AgentPorts} {rest : List HostAction} (hwf : i.wellFormed = true)
    (hrunning : s.halted = false) (hp : s.pending = present i a :: rest) :
    step s = .next (effectOf i (s.takeUp a rest)) := by
  rw [step_command hp, decodeOfEncode i hwf, whenRunning_of_running (by simpa using hrunning), decodedEffect]

/-- A running block at a GEN that both agents answer (R62, R63). -/
theorem step_present_gen {s : State} {a : AgentPorts} {rest : List HostAction} (hrunning : s.halted = false)
    (hclk : a.clkValid = true) (hrng : a.rngValid = true) (hp : s.pending = present .gen a :: rest) :
    step s = .next ((s.takeUp a rest).oneShotReset.takeWord.respond
      (okGenerated (pack s.prefixReg s.deviceId a.clkUs s.rng.word))) := by
  rw [step_present rfl hrunning hp, effectOf_gen_completes hclk hrng, generated_eq_pack]
  rfl

/-- Settles O51, by the three steps: the GEN packs what SETP and SETD have just written. -/
theorem genwithPacksItsOperands : Obligations.GenwithPacksItsOperands := by
  intro s p d a rest hrunning hclk hrng hp
  refine ⟨pack p d a.clkUs s.rng.word, pack_toNat .., ?_⟩
  exact run_three_steps (step_present rfl hrunning hp) (step_present rfl hrunning rfl)
    (step_present_gen hrunning hclk hrng rfl)

/-! ### The digits of the text form -/

theorem hexchar_toNat (n : U4) : (hexchar n).toNat = digitCode n.toNat := by
  revert n; decide

theorem hexval_map_toNat (c : Byte) : (hexval c).map BitVec.toNat = digitValue c.toNat := by
  revert c; decide

/-- Settles O9, by the sixteen digits and the 256 bytes. -/
theorem hexDigitTables : Obligations.HexDigitTables := ⟨hexchar_toNat, hexval_map_toNat⟩

/-- A digit read from a byte is written back as the byte, lowered (R36, R37). -/
theorem hexchar_toNat_of_hexval {c : Byte} {n : U4} (h : hexval c = some n) :
    (hexchar n).toNat = lowerCode c.toNat := by
  have key : ∀ c : Byte, ∀ n ∈ hexval c, (hexchar n).toNat = lowerCode c.toNat := by decide
  exact key c n h

theorem hexval_isSome_iff (c : Byte) : (hexval c).isSome = true ↔ digitValue c.toNat ≠ none := by
  rw [← hexval_map_toNat, Option.isSome_iff_ne_none, ne_eq, ne_eq, Option.map_eq_none_iff]

/-! ### The value of a text -/

theorem digit_mul_pow_add_lt {d y n : Nat} (hd : d < 2 ^ 4) (hy : y < 2 ^ (4 * n)) :
    d * 2 ^ (4 * n) + y < 2 ^ (4 * (n + 1)) := calc
  d * 2 ^ (4 * n) + y < (d + 1) * 2 ^ (4 * n) := by rw [Nat.add_mul]; omega
  _ ≤ 2 ^ 4 * 2 ^ (4 * n) := Nat.mul_le_mul_right _ hd
  _ = 2 ^ (4 * (n + 1)) := by rw [← Nat.pow_add, Nat.mul_add, Nat.mul_one, Nat.add_comm]

/-- A digit added above others does not change them. -/
theorem digit_mul_pow_add_div_mod (d y k i : Nat) :
    (d * 2 ^ (4 * (k + i + 1)) + y) / 2 ^ (4 * k) % 2 ^ 4 = y / 2 ^ (4 * k) % 2 ^ 4 := by
  have hweight : d * 2 ^ (4 * (k + i + 1)) = 2 ^ (4 * k) * (2 ^ 4 * (d * 2 ^ (4 * i))) := by ring
  rw [hweight, Nat.mul_add_div (by positivity), Nat.mul_add_mod]

/-- A further digit in front is added above the rest, as long as 128 bits hold it. -/
theorem hexSum_cons_toNat_of_lt (c : Byte) {s : Text} (hlen : s.length < 32)
    (hs : (hexSum s).toNat < 2 ^ (4 * s.length)) :
    (hexSum (c :: s)).toNat = ((hexval c).getD 0).toNat * 2 ^ (4 * s.length) + (hexSum s).toNat := by
  have hdigit : ((hexval c).getD 0).toNat < 2 ^ 4 := BitVec.isLt _
  have hsum : ((hexval c).getD 0).toNat * 2 ^ (4 * s.length) + (hexSum s).toNat < 2 ^ 128 :=
    (digit_mul_pow_add_lt hdigit hs).trans_le (Nat.pow_le_pow_right (by omega) (by omega))
  rw [hexSum_cons, BitVec.toNat_add, BitVec.toNat_shiftLeft, BitVec.toNat_setWidth, Nat.shiftLeft_eq,
    Nat.mod_eq_of_lt (hdigit.trans (by decide)), Nat.mod_add_mod, Nat.mod_eq_of_lt hsum]

theorem hexSum_toNat_lt {s : Text} (hlen : s.length ≤ 32) : (hexSum s).toNat < 2 ^ (4 * s.length) := by
  induction s with
  | nil => decide
  | cons c s ih =>
    have hs := ih (Nat.le_of_succ_le hlen)
    rw [hexSum_cons_toNat_of_lt c hlen hs]
    exact digit_mul_pow_add_lt (BitVec.isLt _) hs

theorem hexSum_cons_toNat (c : Byte) {s : Text} (hlen : s.length < 32) :
    (hexSum (c :: s)).toNat = ((hexval c).getD 0).toNat * 2 ^ (4 * s.length) + (hexSum s).toNat :=
  hexSum_cons_toNat_of_lt c hlen (hexSum_toNat_lt hlen.le)

/-- The digits of the sum are the digits of the text (R53). -/
theorem hexSum_extract_digit {s : Text} (hlen : s.length ≤ 32) {i : Nat} (hi : i < s.length) :
    (hexSum s).extractLsb' (4 * (s.length - 1 - i)) 4 = (hexval s[i]).getD 0 := by
  induction s generalizing i with
  | nil => cases hi
  | cons c s ih =>
    have hlen' : s.length ≤ 32 := Nat.le_of_succ_le hlen
    refine BitVec.eq_of_toNat_eq ?_
    rw [BitVec.extractLsb'_toNat, hexSum_cons_toNat c hlen, Nat.shiftRight_eq_div_pow]
    cases i with
    | zero =>
      rw [List.getElem_cons_zero, List.length_cons, Nat.add_sub_cancel, Nat.sub_zero, Nat.mul_comm,
        Nat.mul_add_div (by positivity), Nat.div_eq_of_lt (hexSum_toNat_lt hlen'), Nat.add_zero,
        Nat.mod_eq_of_lt (BitVec.isLt _)]
    | succ i =>
      have hi' : i < s.length := Nat.lt_of_succ_lt_succ hi
      obtain ⟨k, hk⟩ : ∃ k, s.length = k + i + 1 := ⟨s.length - 1 - i, by omega⟩
      have hindex : (c :: s).length - 1 - (i + 1) = k := by rw [List.length_cons]; omega
      have hindex' : s.length - 1 - i = k := by omega
      rw [List.getElem_cons_succ, ← ih hlen' hi', BitVec.extractLsb'_toNat, Nat.shiftRight_eq_div_pow, hindex,
        hindex', hk, digit_mul_pow_add_div_mod]

/-- FROMTEXT of 32 digits answers their sum (R53, R54). -/
theorem effectOf_fromtext_of_allHex {x : Text} (hx : allHex x = true) (s : State) :
    effectOf (.fromtext 32 x) s = s.respond (okValue (hexSum x)) := by
  simp [effectOf, parse, hx, State.respondParsed]

/-- The text of the value of 32 digits is the digits, lowered (R95). -/
theorem toText_hexSum {s : Text} (hlen : s.length = 32) (hs : allHex s = true) :
    (toText (hexSum s)).map BitVec.toNat = s.map fun c => lowerCode c.toNat := by
  refine List.ext_getElem (by simp [hlen]) fun i _ hi => ?_
  have hi : i < s.length := by simpa using hi
  obtain ⟨n, hn⟩ := Option.isSome_iff_exists.mp ((allHex_iff s).mp hs s[i] (List.getElem_mem hi))
  have hnibble : nibble (hexSum s) i = n := by
    have hdigit := hexSum_extract_digit hlen.le hi
    rwa [hn, hlen, (by omega : 4 * (32 - 1 - i) = 124 - 4 * i)] at hdigit
  simp only [toText, List.getElem_map, List.getElem_range, hnibble, hexchar_toNat_of_hexval hn]

/-! ### The pseudo-instruction RETEXT -/

/-- The first command of RETEXT offers a text of 32 bytes whole (R54). -/
theorem retextFirst_of_length {x : Text} (hlen : x.length = 32) : retextFirst x = .fromtext 32 x := by
  rw [retextFirst, fromtextOf, lanesOf_toList_of_length hlen, offeredLength, hlen]
  rfl

/-- Settles O52: FROMTEXT answers the sum of the digits, whose text is the digits lowered. -/
theorem retextLowersTheDigits : Obligations.RetextLowersTheDigits := by
  intro s x hrunning hlen hdigits
  have hhex : allHex x = true := (allHex_iff x).mpr fun c hc => (hexval_isSome_iff c).mpr (hdigits c hc)
  have hfirst : exec (retextFirst x) s = .next (s.respond (okValue (hexSum x))) := by
    rw [retextFirst_of_length hlen, exec_of_running _ hrunning, effectOf_fromtext_of_allHex hhex]
  exact ⟨_, _, _, _, _, hfirst, rfl, rfl, exec_of_running _ hrunning, rfl, toText_hexSum hlen hhex⟩

end Sys2Proof.Machine
end

section
/-! PROOFS. Packing (spec/40_pack.md): what the five fields of a packed value hold, and the laws of R50. -/

namespace Sys2Proof.Machine

/-! ### The fields of a packed value -/

/-- The field of a placed operand holds the operand's low bits (R35, R43). -/
theorem place_extractLsb'_same {w width shift : Nat} (x : BitVec w) (hfit : shift + width ≤ 128) :
    (place x width shift).extractLsb' shift width = x.setWidth width := by
  refine BitVec.eq_of_getLsbD_eq fun i hi => ?_
  have hrange : shift + i < 128 := by omega
  have hbit : i < 128 := by omega
  simp [place, getLsbD_ofNat_two_pow_sub_one, hi, hrange, hbit]

/-- Any other field of a placed operand holds 0 (R33). -/
theorem place_extractLsb'_other {w width shift start len : Nat} (x : BitVec w)
    (hdisjoint : start + len ≤ shift ∨ shift + width ≤ start) :
    (place x width shift).extractLsb' start len = 0 := by
  refine BitVec.eq_of_getLsbD_eq fun i hi => ?_
  simp [place_getLsbD_outside x (by omega : start + i < shift ∨ shift + width ≤ start + i)]

@[simp] theorem prefixOf_pack (p d : U16) (t r : U64) : prefixOf (pack p d t r) = p := by
  simp [prefixOf, Config.prefixShift, pack_eq_or_place, BitVec.extractLsb'_or, place_extractLsb'_same,
    place_extractLsb'_other]

@[simp] theorem versionOf_pack (p d : U16) (t r : U64) : versionOf (pack p d t r) = 1#4 :=
  pack_extract_version p d t r

@[simp] theorem deviceOf_pack (p d : U16) (t r : U64) : deviceOf (pack p d t r) = d := by
  simp [deviceOf, Config.deviceShift, pack_eq_or_place, BitVec.extractLsb'_or, place_extractLsb'_same,
    place_extractLsb'_other]

@[simp] theorem timestampOf_pack (p d : U16) (t r : U64) : timestampOf (pack p d t r) = t.setWidth 48 := by
  simp [timestampOf, Config.timestampShift, pack_eq_or_place, BitVec.extractLsb'_or, place_extractLsb'_same,
    place_extractLsb'_other]

@[simp] theorem randomOf_pack (p d : U16) (t r : U64) : randomOf (pack p d t r) = r.setWidth 44 := by
  simp [randomOf, Config.randomShift, pack_eq_or_place, BitVec.extractLsb'_or, place_extractLsb'_same,
    place_extractLsb'_other]

/-- Settles O1: the formula is the definition, and each slice is a field function of R35. -/
theorem packPlacesFields : Obligations.PackPlacesFields := by
  intro p d t r
  exact ⟨rfl, prefixOf_pack .., versionOf_pack .., deviceOf_pack .., timestampOf_pack .., randomOf_pack ..⟩

/-! ### The operands that a packed value determines -/

/-- Packed values are equal exactly when their operands agree in the bits that are packed (R50 laws 2 and 4). -/
theorem pack_eq_pack_iff {p p' d d' : U16} {t t' r r' : U64} :
    pack p d t r = pack p' d' t' r' ↔
      p = p' ∧ d = d' ∧ t.toNat % 2 ^ 48 = t'.toNat % 2 ^ 48 ∧ r.toNat % 2 ^ 44 = r'.toNat % 2 ^ 44 := by
  constructor
  · intro h
    have hp := congrArg prefixOf h
    have hd := congrArg deviceOf h
    have ht := congrArg (fun v => (timestampOf v).toNat) h
    have hr := congrArg (fun v => (randomOf v).toNat) h
    simp only [prefixOf_pack, deviceOf_pack, timestampOf_pack, randomOf_pack, BitVec.toNat_setWidth] at hp hd ht hr
    exact ⟨hp, hd, ht, hr⟩
  · rintro ⟨rfl, rfl, ht, hr⟩
    refine BitVec.eq_of_toNat_eq ?_
    rw [pack_toNat, pack_toNat, packedNumber, packedNumber, ht, hr]

/-- Settles O3: the field functions read the operands back, and what the fields cut off is not packed. -/
theorem packReadsBackAndTruncates : Obligations.PackReadsBackAndTruncates := by
  intro p d t r
  refine ⟨⟨prefixOf_pack .., versionOf_pack .., deviceOf_pack .., ?_, ?_⟩, (pack_masked ..).symm,
    fun k t' ht => ?_, fun k r' hr => ?_⟩
  · rw [timestampOf_pack, BitVec.toNat_setWidth]
  · rw [randomOf_pack, BitVec.toNat_setWidth]
  · exact pack_eq_pack_iff.mpr ⟨rfl, rfl, by rw [ht, Nat.add_mul_mod_self_right], rfl⟩
  · exact pack_eq_pack_iff.mpr ⟨rfl, rfl, rfl, by rw [hr, Nat.add_mul_mod_self_right]⟩

/-- Settles O5: an operand in range is its own remainder. -/
theorem packInjectiveInRange : Obligations.PackInjectiveInRange := by
  intro p p' d d' t t' r r' ht ht' hr hr' h
  obtain ⟨hp, hd, htime, hrandom⟩ := pack_eq_pack_iff.mp h
  rw [Nat.mod_eq_of_lt ht, Nat.mod_eq_of_lt ht'] at htime
  rw [Nat.mod_eq_of_lt hr, Nat.mod_eq_of_lt hr'] at hrandom
  exact ⟨hp, hd, BitVec.eq_of_toNat_eq htime, BitVec.eq_of_toNat_eq hrandom⟩

/-! ### Changing one operand -/

theorem or_eq_xor_of_and_eq_zero {w : Nat} {x y : BitVec w} (h : x &&& y = 0) : x ||| y = x ^^^ y := by
  refine BitVec.eq_of_getLsbD_eq fun i _ => ?_
  have hbit : (x.getLsbD i && y.getLsbD i) = false := by
    rw [← BitVec.getLsbD_and, h]
    exact BitVec.getLsbD_zero
  rw [BitVec.getLsbD_or, BitVec.getLsbD_xor]
  revert hbit
  cases x.getLsbD i <;> cases y.getLsbD i <;> decide

/-- Placing is linear over the exclusive or. -/
theorem place_xor_place {w : Nat} (x y : BitVec w) (width shift : Nat) :
    place x width shift ^^^ place y width shift = place (x ^^^ y) width shift := by
  refine BitVec.eq_of_getLsbD_eq fun i hi => ?_
  simp only [place, BitVec.getLsbD_xor, BitVec.getLsbD_shiftLeft, BitVec.getLsbD_and, BitVec.getLsbD_setWidth,
    Bool.and_xor_distrib_left, Bool.and_xor_distrib_right]

theorem place_zero (w width shift : Nat) : place (0#w) width shift = 0#128 := by
  simp [place]

/-- The placed operands share no bit, so that combining them with `|` equals combining them with `^` (R33). -/
theorem pack_eq_xor_place (p d : U16) (t r : U64) :
    pack p d t r = place p 16 112 ^^^ place 1#4 4 108 ^^^ place d 16 92 ^^^ place t 48 44 ^^^ place r 44 0 := by
  rw [pack_eq_or_place, or_eq_xor_of_and_eq_zero, or_eq_xor_of_and_eq_zero, or_eq_xor_of_and_eq_zero,
    or_eq_xor_of_and_eq_zero] <;> simp [BitVec.and_or_distrib_right, place_and_place]

theorem xor_xor_xor_comm {w : Nat} (a b c d : BitVec w) : (a ^^^ b) ^^^ (c ^^^ d) = (a ^^^ c) ^^^ (b ^^^ d) := by
  ac_rfl

/-- Two packed values differ by the placed differences of their operands. -/
theorem pack_xor_pack (p p' d d' : U16) (t t' r r' : U64) :
    pack p d t r ^^^ pack p' d' t' r' =
      place (p ^^^ p') 16 112 ^^^ place (d ^^^ d') 16 92 ^^^ place (t ^^^ t') 48 44 ^^^ place (r ^^^ r') 44 0 := by
  rw [pack_eq_xor_place, pack_eq_xor_place, xor_xor_xor_comm, place_xor_place, xor_xor_xor_comm, place_xor_place,
    xor_xor_xor_comm, place_xor_place, xor_xor_xor_comm, place_xor_place, place_xor_place 1#4,
    BitVec.xor_self, place_zero, BitVec.xor_zero]

/-- Settles O4: the operands that stay have difference 0, which is placed as 0. -/
theorem packFieldsAreIndependent : Obligations.PackFieldsAreIndependent := by
  intro p p' d d' t t' r r'
  have hprefix := place_of_width_eq (p ^^^ p') 112
  have hdevice := place_of_width_eq (d ^^^ d') 92
  have htime := place_of_width_le (t ^^^ t') 44 (width := 48) (by decide)
  have hrandom := place_of_width_le (r ^^^ r') 0 (width := 44) (by decide)
  rw [BitVec.shiftLeft_zero] at hrandom
  simp only [pack_xor_pack, BitVec.xor_self, place_zero, BitVec.xor_zero, BitVec.zero_xor]
  exact ⟨hprefix, hdevice, htime, hrandom⟩

/-! ### The order of packed values -/

/-- Settles O6: the version code alone weighs 2^108. -/
theorem packIsNeverZero : Obligations.PackIsNeverZero := by
  have hleast : ∀ (p d : U16) (t r : U64), 2 ^ 108 ≤ (pack p d t r).toNat := by
    intro p d t r
    rw [pack_toNat, packedNumber]
    omega
  refine ⟨fun p d t r => ⟨hleast p d t r, fun h => ?_⟩, pack_toNat 0 0 0 0⟩
  exact absurd (hleast p d t r) (by rw [h]; decide)

/-- Two-digit numbers compare by the upper digit first. -/
theorem mul_add_lt_mul_add_iff {b x x' y y' : Nat} (hy : y < b) (hy' : y' < b) :
    x * b + y < x' * b + y' ↔ x < x' ∨ x = x' ∧ y < y' := by
  rcases Nat.lt_trichotomy x x' with h | rfl | h
  · have := Nat.mul_le_mul_right b h
    rw [Nat.succ_mul] at this
    omega
  · omega
  · have := Nat.mul_le_mul_right b h
    rw [Nat.succ_mul] at this
    omega

/-- The packed value, its fields nested from the top, each weighing more than all that lies below it (R48). -/
theorem packedNumber_eq_nested (p d : U16) (t r : U64) :
    packedNumber p d t r =
      p.toNat * 2 ^ 112 + ((2 ^ 16 + d.toNat) * 2 ^ 92 + (t.toNat % 2 ^ 48 * 2 ^ 44 + r.toNat % 2 ^ 44)) := by
  rw [packedNumber]
  omega

/-- Settles O7: at each of the three joins, what lies below is smaller than the weight of the field above. -/
theorem packSortsFieldByField : Obligations.PackSortsFieldByField := by
  intro p p' d d' t t' r r'
  have hrandom (r : U64) : r.toNat % 2 ^ 44 < 2 ^ 44 := Nat.mod_lt _ (by decide)
  have htime (t r : U64) : t.toNat % 2 ^ 48 * 2 ^ 44 + r.toNat % 2 ^ 44 < 2 ^ 92 := by omega
  have hdevice (d : U16) (t r : U64) :
      (2 ^ 16 + d.toNat) * 2 ^ 92 + (t.toNat % 2 ^ 48 * 2 ^ 44 + r.toNat % 2 ^ 44) < 2 ^ 112 := by
    have hd : d.toNat < 2 ^ 16 := d.isLt
    omega
  rw [pack_toNat, pack_toNat, packedNumber_eq_nested, packedNumber_eq_nested,
    mul_add_lt_mul_add_iff (hdevice d t r) (hdevice d' t' r'), mul_add_lt_mul_add_iff (htime t r) (htime t' r'),
    mul_add_lt_mul_add_iff (hrandom r) (hrandom r'), Nat.add_lt_add_iff_left, Nat.add_left_cancel_iff,
    BitVec.toNat_inj, BitVec.toNat_inj]

/-- Settles O17: PACK reads no register and writes none. -/
theorem packCommandAnswers : Obligations.PackCommandAnswers := by
  intro p d t r s hrunning
  exact ⟨pack p d t r, pack_toNat p d t r, exec_of_running _ hrunning⟩

end Sys2Proof.Machine
end

section
/-! PROOFS. Identifiers (spec/41_identifier.md): the text form, what `from_text` answers, the round trip, `edit_prefix`,
and the five identifier commands. -/

namespace Sys2Proof.Machine

/-! ### The text form -/

theorem hexchar_eq_ofNat (n : U4) : hexchar n = BitVec.ofNat 8 (digitCode n.toNat) := by
  rw [← hexchar_toNat, BitVec.ofNat_toNat, BitVec.setWidth_eq]

/-- Settles O10: character `i` is the digit of nibble `i`. -/
theorem toTextDigits : Obligations.ToTextDigits := by
  intro v
  refine ⟨toText_length v, fun i hi => ?_⟩
  rw [toText_getElem? v hi, hexchar_eq_ofNat, nibble]

/-- The 32 nibbles of a value are all its bits (R23). -/
theorem eq_of_nibble_eq {v w : U128} (h : ∀ i < 32, nibble v i = nibble w i) : v = w := by
  refine BitVec.eq_of_getLsbD_eq fun j hj => ?_
  have hbit := congrArg (fun n => n.getLsbD (j % 4)) (h (31 - j / 4) (by omega))
  have hin : j % 4 < 4 := Nat.mod_lt _ (by decide)
  have hpos : 124 - 4 * (31 - j / 4) + j % 4 = j := by omega
  simpa only [nibble, BitVec.getLsbD_extractLsb', hin, hpos, decide_true, Bool.true_and] using hbit

/-! ### What `from_text` answers -/

theorem fromText_of_length_ne {s : Text} (hlen : s.length ≠ 32) : fromText s = .invalidLength := by
  simp [fromText, parse, hlen]

theorem fromText_of_bad_digit {s : Text} (hlen : s.length = 32) (hbad : ∃ c ∈ s, hexval c = none) :
    fromText s = .invalidFormat := by
  simpa [fromText, parse, hlen, allHex] using hbad

theorem fromText_of_allHex {s : Text} (hlen : s.length = 32) (hs : allHex s = true) :
    fromText s = .value (hexSum s) := by
  simp [fromText, parse, hlen, hs]

/-- The value of a text is the sum of its digits, each weighted by its place (R53). -/
theorem hexSum_toNat_eq_sum {s : Text} (hlen : s.length ≤ 32) :
    (hexSum s).toNat = ((List.range s.length).map fun i =>
      ((hexval (s.getD i 0)).getD 0).toNat * 2 ^ (4 * (s.length - 1 - i))).sum := by
  induction s with
  | nil => rfl
  | cons c s ih =>
    rw [hexSum_cons_toNat c hlen, ih (Nat.le_of_succ_le hlen), List.length_cons, List.range_succ_eq_map]
    simp [Function.comp_def, Nat.sub_sub, Nat.add_comm 1]

/-- Nibble `i` of the value of 32 digits is the digit of character `i` (R53). -/
theorem hexval_getD_eq_nibble_hexSum {s : Text} (hlen : s.length = 32) (hs : allHex s = true) {i : Nat} (hi : i < 32) :
    hexval (s.getD i 0) = some (nibble (hexSum s) i) := by
  have hi' : i < s.length := by omega
  obtain ⟨n, hn⟩ := Option.isSome_iff_exists.mp ((allHex_iff s).mp hs s[i] (List.getElem_mem hi'))
  have hdigit := hexSum_extract_digit hlen.le hi'
  rw [hn, hlen, (by omega : 4 * (32 - 1 - i) = 124 - 4 * i)] at hdigit
  rw [List.getD_eq_getElem s 0 hi', hn, nibble, hdigit, Option.getD_some]

/-- Settles O12: the three branches of `parse`, the last with the sum and the nibbles of its value. -/
theorem fromTextOutcomes : Obligations.FromTextOutcomes := by
  intro s
  refine ⟨fromText_of_length_ne, fromText_of_bad_digit, fun hlen hdigits => ?_⟩
  have hs : allHex s = true := (allHex_iff s).mpr fun c hc => Option.isSome_iff_ne_none.mpr (hdigits c hc)
  have hsum := hexSum_toNat_eq_sum hlen.le
  rw [hlen] at hsum
  exact ⟨hexSum s, fromText_of_allHex hlen hs, hsum, fun i hi => hexval_getD_eq_nibble_hexSum hlen hs hi⟩

/-! ### The round trip -/

theorem allHex_toText (v : U128) : allHex (toText v) = true := by
  simp [allHex, toText, hexval_hexchar]

/-- The sum of the digits of a value's text is the value, nibble by nibble (R51, R53). -/
theorem hexSum_toText (v : U128) : hexSum (toText v) = v := by
  refine eq_of_nibble_eq fun i hi => Option.some_injective _ ?_
  rw [← hexval_getD_eq_nibble_hexSum (toText_length v) (allHex_toText v) hi, List.getD_eq_getElem?_getD,
    toText_getElem? v hi, Option.getD_some, hexval_hexchar]

/-- Settles O13: the text of a value is 32 digits, whose sum is the value. -/
theorem valuesSurviveTheRoundTrip : Obligations.ValuesSurviveTheRoundTrip := by
  intro v
  rw [fromText_of_allHex (toText_length v) (allHex_toText v), hexSum_toText]

/-! ### Prefix replacement -/

/-- The edited value is its new top field and the old value's low 112 bits, each placed (R43, R57). -/
theorem editPrefix_eq_or_place (v : U128) (p : U16) : editPrefix v p = place p 16 112 ||| place v 112 0 := by
  rw [place_of_width_eq p, place_of_width_le v 0 (by decide), BitVec.shiftLeft_zero, BitVec.setWidth_eq, BitVec.or_comm]
  rfl

/-- The edited value as a number (R57). -/
theorem editPrefix_toNat (v : U128) (p : U16) :
    (editPrefix v p).toNat = p.toNat * 2 ^ 112 + v.toNat % 2 ^ 112 := by
  have hdisjoint : place p 16 112 &&& place v 112 0 = 0 := place_and_place _ _ (by decide)
  have hp : p.toNat < 2 ^ 16 := p.isLt
  rw [editPrefix_eq_or_place, ← BitVec.add_eq_or_of_and_eq_zero _ _ hdisjoint, BitVec.toNat_add,
    place_toNat p (by decide) (by decide), place_toNat v (by decide) (by decide)]
  omega

/-- Settles O15: the two fields of the edited value hold what was placed there. -/
theorem editPrefixReplacesTopField : Obligations.EditPrefixReplacesTopField := by
  intro v p
  refine ⟨rfl, ?_, ?_⟩
  · rw [editPrefix_eq_or_place, BitVec.extractLsb'_or, place_extractLsb'_same p (by decide),
      place_extractLsb'_other v (by decide)]
    simp
  · rw [editPrefix_eq_or_place, BitVec.extractLsb'_or, place_extractLsb'_other p (by decide),
      place_extractLsb'_same v (by decide), BitVec.setWidth_eq_extractLsb' (by decide)]
    simp

/-- Settles O16: the numbers of the edited values agree. -/
theorem editPrefixLaws : Obligations.EditPrefixLaws := by
  refine ⟨fun v p q => ?_, fun p q d t r => ?_, fun v => ?_⟩ <;> refine BitVec.eq_of_toNat_eq ?_
  · rw [editPrefix_toNat, editPrefix_toNat, editPrefix_toNat, Nat.mul_add_mod_self_right, Nat.mod_mod]
  · have hd : d.toNat < 2 ^ 16 := d.isLt
    rw [editPrefix_toNat, pack_toNat, pack_toNat, packedNumber, packedNumber]
    omega
  · have hv : v.toNat < 2 ^ 128 := v.isLt
    rw [editPrefix_toNat, BitVec.extractLsb'_toNat, Nat.shiftRight_eq_div_pow]
    omega

/-! ### The commands -/

/-- Settles O18: TOTEXT answers the text of its operand. -/
theorem totextCommandAnswers : Obligations.TotextCommandAnswers := by
  intro v s hrunning
  refine ⟨toText v, toText_length v, fun i hi => ?_, exec_of_running _ hrunning⟩
  rw [toText_getElem? v hi, Option.map_some, hexchar_toNat, nibble]

/-- Settles O19: FROMTEXT answers the sum of the digits, whose nibbles are the digits. -/
theorem fromtextCommandAnswers : Obligations.FromtextCommandAnswers := by
  intro x s hrunning hlen hdigits
  have hx : allHex x = true := (allHex_iff x).mpr fun c hc => (hexval_isSome_iff c).mpr (hdigits c hc)
  refine ⟨hexSum x, fun i hi => ?_, ?_⟩
  · rw [← hexval_map_toNat, hexval_getD_eq_nibble_hexSum hlen hx hi, Option.map_some, nibble]
  · rw [exec_of_running _ hrunning, effectOf_fromtext_of_allHex hx]
    rfl

/-- Settles O23: the effect of either command is to answer its operand. -/
theorem rawValuesPassThrough : Obligations.RawValuesPassThrough := by
  intro v s hrunning
  exact ⟨exec_of_running _ hrunning, exec_of_running _ hrunning⟩

/-- Settles O24: EDITP answers the edited value. -/
theorem editpCommandAnswers : Obligations.EditpCommandAnswers := by
  intro v h s hrunning
  exact ⟨editPrefix v h, editPrefix_toNat v h, exec_of_running _ hrunning⟩

end Sys2Proof.Machine
end

section
/-! PROOFS. The generator front end (spec/42_generator.md): what any number of takes does to the random source, which
commands move it, and the set commands and GEN. -/

namespace Sys2Proof.Machine

/-! ### The random source after any number of takes -/

/-- The word shown, the fixed words and the stream in one expression (R66 item 1). -/
theorem RandomSource.word_eq_getD (g : RandomSource) :
    g.word = g.upcoming.head?.getD (Config.randomWord g.stream g.taken) := by
  cases h : g.upcoming with
  | nil => exact g.word_stream h
  | cons w ws => exact g.word_upcoming h

/-- One take drops a fixed word, or counts one of the stream where none is left (R66 item 1). -/
theorem RandomSource.advance_eq_drop (g : RandomSource) :
    g.advance = { g with upcoming := g.upcoming.drop 1, taken := g.taken + (1 - g.upcoming.length) } := by
  cases h : g.upcoming with
  | nil => simp [g.advance_stream h, h]
  | cons w ws => simp [g.advance_upcoming h]

theorem RandomSource.advance_iterate (g : RandomSource) (n : Nat) :
    RandomSource.advance^[n] g =
      { g with upcoming := g.upcoming.drop n, taken := g.taken + (n - g.upcoming.length) } := by
  induction n with
  | zero => simp
  | succ n ih =>
    have hcount : n - g.upcoming.length + (1 - (g.upcoming.length - n)) = n + 1 - g.upcoming.length := by omega
    rw [Function.iterate_succ_apply', ih, RandomSource.advance_eq_drop]
    simp only [List.drop_drop, List.length_drop, Nat.add_assoc, hcount]

/-- After `n` takes the source shows fixed word `n`, or the word of its stream that the further takes lead to. -/
theorem RandomSource.word_advance_iterate (g : RandomSource) (n : Nat) :
    (RandomSource.advance^[n] g).word =
      g.upcoming[n]?.getD (Config.randomWord g.stream (g.taken + (n - g.upcoming.length))) := by
  rw [RandomSource.word_eq_getD, g.advance_iterate, List.head?_drop]

/-- With no word fixed beforehand the source shows its stream, word by word (R62, R66). -/
theorem RandomSource.word_advance_iterate_stream {g : RandomSource} (h : g.upcoming = []) (n : Nat) :
    (RandomSource.advance^[n] g).word = Config.randomWord g.stream (g.taken + n) := by
  rw [g.word_advance_iterate, h]
  rfl

theorem RandomSource.word_advance_iterate_reseed (g : RandomSource) (seed : Vector Byte 32) (n : Nat) :
    (RandomSource.advance^[n] (g.reseed seed)).word = Config.randomWord (.seeded seed) n := by
  rw [RandomSource.word_advance_iterate_stream rfl, RandomSource.reseed, Nat.zero_add]

theorem RandomSource.word_advance_iterate_reinitialise (g : RandomSource) (n : Nat) :
    (RandomSource.advance^[n] g.reinitialise).word = Config.randomWord (.entropy (g.renewals + 1)) n := by
  rw [RandomSource.word_advance_iterate_stream rfl, RandomSource.reinitialise, Nat.zero_add]

/-- Settles O41: both sources show the same word of the seed's stream. -/
theorem equalSeedsShowEqualWords : Obligations.EqualSeedsShowEqualWords := by
  intro g g' seed n
  rw [g.word_advance_iterate_reseed, g'.word_advance_iterate_reseed]

/-- Settles O58: the general count of takes, at a source with an empty list. -/
theorem randomSourceFollowsItsStream : Obligations.RandomSourceFollowsItsStream := by
  refine ⟨fun g n h => ⟨?_, RandomSource.word_advance_iterate_stream h n⟩,
    RandomSource.word_advance_iterate_reseed, RandomSource.word_advance_iterate_reinitialise, fun n => ?_⟩
  · simp [g.advance_iterate, h]
  · rw [RandomSource.word_advance_iterate_stream rfl, State.reset, Nat.zero_add]

/-- Settles O42: place `n` of the list within it, and none at its end or beyond. -/
theorem fixedWordsAreShownInOrder : Obligations.FixedWordsAreShownInOrder := by
  rintro g _ n rfl
  refine ⟨fun w hw => ?_, ?_, g.advance_iterate n⟩
  · rw [g.word_advance_iterate, hw, Option.getD_some]
  · rw [g.word_advance_iterate, List.getElem?_eq_none (Nat.le_add_right ..), Option.getD_none,
      Nat.add_sub_cancel_left]

/-! ### Reseeding -/

/-- Settles O40: the two actions as steps, and the sources that they leave. -/
theorem reseedLeavesTheBlockAlone : Obligations.ReseedLeavesTheBlockAlone := by
  intro s rest
  exact ⟨fun k hp => ⟨step_reseed hp, rfl⟩, fun hp => ⟨step_reinitialise hp, rfl⟩⟩

/-! ### The commands in a running block -/

/-- Settles O25: the effect of each is one write and the answer. -/
theorem setCommandsWriteOneRegister : Obligations.SetCommandsWriteOneRegister := by
  intro h s hrunning
  exact ⟨exec_of_running _ hrunning, exec_of_running _ hrunning, exec_of_running _ hrunning⟩

/-- A running block at a GEN that both agents answer (R62, R63). -/
theorem exec_gen_completes {s : State} (hrunning : s.halted = false) (hclk : s.agents.clkValid = true)
    (hrng : s.agents.rngValid = true) :
    exec .gen s = .next (s.oneShotReset.takeWord.respond
      (okGenerated (pack s.prefixReg s.deviceId s.agents.clkUs s.rng.word))) := by
  rw [exec_of_running _ hrunning, effectOf_gen_completes hclk hrng, generated_eq_pack]

/-- A running block at a GEN that lacks an agent (R74 item 1). -/
theorem exec_gen_fails {s : State} (hrunning : s.halted = false)
    (hagent : s.agents.clkValid = false ∨ s.agents.rngValid = false) : exec .gen s = .next (s.raise .fatal) := by
  rw [exec_of_running _ hrunning, effectOf_gen_fails hagent]

/-- Settles O26: the value is the packed one, and the writes of a GEN that completes are the four fields. -/
theorem genCompletes : Obligations.GenCompletes := by
  intro s hrunning hclk hrng
  exact ⟨_, pack_toNat .., exec_gen_completes hrunning hclk hrng⟩

/-- Settles O47: operands that agree within their fields pack alike. -/
theorem genIsDeterminedByItsInputs : Obligations.GenIsDeterminedByItsInputs := by
  intro s s' hs hclk hrng hs' hclk' hrng' hprefix hdevice htime hword
  have hpack : pack s.prefixReg s.deviceId s.agents.clkUs s.rng.word
      = pack s'.prefixReg s'.deviceId s'.agents.clkUs s'.rng.word :=
    pack_eq_pack_iff.mpr ⟨hprefix, hdevice, htime, hword⟩
  refine ⟨_, _, exec_gen_completes hs hclk hrng, exec_gen_completes hs' hclk' hrng', ?_⟩
  rw [State.respond_response, State.respond_response, hpack]

/-- Settles O49: each of the two GENs packs the registers as it finds them, and the first leaves them reset. -/
theorem oneShotIsUsedOnce : Obligations.OneShotIsUsedOnce := by
  constructor
  · intro s a hrunning hclk hrng hclk' hrng'
    exact ⟨_, _, _, _, exec_gen_completes hrunning hclk hrng, rfl, prefixOf_pack .., deviceOf_pack .., rfl, rfl,
      exec_gen_completes hrunning hclk' hrng', rfl, prefixOf_pack .., deviceOf_pack ..⟩
  · intro s hrunning hagent
    exact ⟨_, exec_gen_fails hrunning hagent, rfl, rfl, rfl⟩

/-! ### What moves the random source -/

theorem decode_eq_gen_iff {p : Ports} : decode p = .instr .gen ↔ p.op = 0xB#4 :=
  ⟨fun h => (opcode_of_decode_eq_instr h).symm, decode_gen⟩

@[simp] theorem parsedResponse_rngTake (x : Parsed) : (parsedResponse x).rngTake = false := by
  cases x <;> rfl

/-- Between `s` and `t` a command answered, took a word exactly if `takes` holds, and moved the random source by that word
only (R64, R66 items 1 and 2). -/
def MovesSourceOnTake (s t : State) (takes : Prop) : Prop :=
  ∃ r, t.response = some r ∧ (r.rngTake = true ↔ takes)
    ∧ t.rng = if r.rngTake = true then s.rng.advance else s.rng

theorem movesSourceOnTake_of_take {s t : State} {takes : Prop} {r : Response} (hr : t.response = some r)
    (htake : r.rngTake = true) (hrng : t.rng = s.rng.advance) (h : takes) : MovesSourceOnTake s t takes :=
  ⟨r, hr, iff_of_true htake h, by rw [if_pos htake, hrng]⟩

theorem movesSourceOnTake_of_no_take {s t : State} {takes : Prop} {r : Response} (hr : t.response = some r)
    (htake : r.rngTake = false) (hrng : t.rng = s.rng) (h : ¬ takes) : MovesSourceOnTake s t takes :=
  ⟨r, hr, iff_of_false (by simp [htake]) h, by simp [htake, hrng]⟩

/-- Every command but GEN, and every reserved opcode, answers without a word and leaves the random source (R44, R64). -/
theorem exists_response_no_take_of_ne_gen {d : Decoded} (hd : d ≠ .instr .gen) (s : State) :
    ∃ r, (decodedEffect d s).response = some r ∧ r.rngTake = false ∧ (decodedEffect d s).rng = s.rng := by
  cases d with
  | reserved op => exact ⟨_, rfl, rfl, rfl⟩
  | instr i =>
    cases i with
    | fromtext n x =>
      rw [decodedEffect, effectOf, respondParsed_eq_respond]
      exact ⟨_, rfl, parsedResponse_rngTake _, rfl⟩
    | gen => exact absurd rfl hd
    | _ => exact ⟨_, rfl, rfl, rfl⟩

theorem effectOf_gen_movesSource (s : State) :
    MovesSourceOnTake s (effectOf .gen s) (s.agents.clkValid = true ∧ s.agents.rngValid = true) := by
  by_cases hagents : s.agents.clkValid = true ∧ s.agents.rngValid = true
  · obtain ⟨hclk, hrng⟩ := hagents
    rw [effectOf_gen_completes hclk hrng]
    exact movesSourceOnTake_of_take rfl rfl rfl ⟨hclk, hrng⟩
  · have hagent : s.agents.clkValid = false ∨ s.agents.rngValid = false := by
      simpa only [Decidable.not_and_iff_or_not, Bool.not_eq_true] using hagents
    rw [effectOf_gen_fails hagent]
    exact movesSourceOnTake_of_no_take rfl rfl rfl hagents

/-- Settles O43: a halted block takes no word, and in a running one only a GEN with both agents does. -/
theorem randomSourceMovesOnlyOnTake : Obligations.RandomSourceMovesOnlyOnTake := by
  intro s t p a rest hp hstep
  change MovesSourceOnTake (s.takeUp a rest) t _
  rw [step_command hp] at hstep
  rcases whenRunning_cases (s.takeUp a rest) (decodedEffect (decode p) (s.takeUp a rest)) with ⟨hs, h⟩ | ⟨hs, h⟩
  · cases hstep.symm.trans h
    rw [State.takeUp_halted] at hs
    by_cases hop : p.op = 0xB#4
    · simpa [hs, hop, decode_gen hop, decodedEffect] using effectOf_gen_movesSource (s.takeUp a rest)
    · obtain ⟨r, hr, htake, hrng⟩ := exists_response_no_take_of_ne_gen (mt decode_eq_gen_iff.mp hop) (s.takeUp a rest)
      exact movesSourceOnTake_of_no_take hr htake hrng (by simp [hop])
  · cases hstep.symm.trans h
    rw [State.takeUp_halted] at hs
    exact movesSourceOnTake_of_no_take rfl rfl rfl (by simp [hs])

end Sys2Proof.Machine
end

section
/-! PROOFS. Errors and the halt (spec/60_exceptions.md): what a halted block answers, the errors of FROMTEXT and GEN, and
the invariant on HALTED and the last response that every step keeps. -/

namespace Sys2Proof.Machine

/-! ### The responses of a command are coherent -/

/-- A response that carries nothing may have any status (R44, R77, R78). -/
theorem coherent_of_no_value (e : Status) : Response.Coherent ⟨e, none, none, false⟩ where
  errorCarriesNothing _ := ⟨rfl, rfl, rfl⟩
  oneOutput := .inl rfl
  textIsCanonical := nofun
  takeMeansIdentifier := nofun

/-- A value may be answered with a word taken if its version code is 1 (R34, R44). -/
theorem coherent_of_value {v : U128} {take : Bool} (hversion : take = true → versionOf v = 1#4) :
    Response.Coherent ⟨.ok, some v, none, take⟩ where
  errorCarriesNothing hstatus := absurd rfl hstatus
  oneOutput := .inr rfl
  textIsCanonical := nofun
  takeMeansIdentifier htake := ⟨v, rfl, hversion htake⟩

theorem lowercaseHex_of_mem_toText {v : U128} {c : Byte} (hc : c ∈ toText v) : lowercaseHex c := by
  obtain ⟨i, -, rfl⟩ := List.mem_map.mp hc
  exact lowercaseHex_hexchar _

theorem coherent_okText_toText (v : U128) : (okText (toText v)).Coherent where
  errorCarriesNothing hstatus := absurd rfl hstatus
  oneOutput := .inl rfl
  textIsCanonical := by
    rintro _ ⟨⟩
    exact ⟨toText_length v, fun c hc => lowercaseHex_of_mem_toText hc⟩
  takeMeansIdentifier := nofun

theorem coherent_parsedResponse (x : Parsed) : (parsedResponse x).Coherent := by
  cases x with
  | value v => exact coherent_of_value nofun
  | invalidLength => exact coherent_of_no_value _
  | invalidFormat => exact coherent_of_no_value _

theorem coherent_okGenerated (s : State) : (okGenerated s.generated).Coherent :=
  coherent_of_value fun _ => by rw [generated_eq_pack, versionOf_pack]

/-- Answering a parse never halts the block (R71, R72, R77). -/
theorem parsedResponse_status_ne_fatal (x : Parsed) : (parsedResponse x).status ≠ .fatal := by
  cases x <;> exact nofun

/-! ### The invariant -/

theorem inv_respond {s : State} {r : Response} (hs : s.halted = false) (hstatus : r.status ≠ .fatal)
    (hr : r.Coherent) : (s.respond r).Inv where
  haltedIffFatal := by simp [hs, hstatus]
  responseCoherent := by
    rintro _ ⟨⟩
    exact hr

theorem inv_raise_fatal (s : State) : (s.raise .fatal).Inv where
  haltedIffFatal := by simp [failed]
  responseCoherent := by
    rintro _ ⟨⟩
    exact coherent_of_no_value _

theorem inv_of_no_response {s : State} (hs : s.halted = false) (hr : s.response = none) : s.Inv where
  haltedIffFatal := by simp [hs, hr]
  responseCoherent := by simp [hr]

/-- The invariant speaks of HALTED and the last response only. -/
theorem State.Inv.of_eq {s t : State} (h : s.Inv) (hhalted : t.halted = s.halted) (hresponse : t.response = s.response) :
    t.Inv where
  haltedIffFatal := by rw [hhalted, hresponse]; exact h.haltedIffFatal
  responseCoherent := by rw [hresponse]; exact h.responseCoherent

theorem inv_effectOf_gen {s : State} (hs : s.halted = false) : (effectOf .gen s).Inv := by
  by_cases hagent : s.agents.clkValid = false ∨ s.agents.rngValid = false
  · rw [effectOf_gen_fails hagent]
    exact inv_raise_fatal s
  · simp only [not_or, Bool.not_eq_false] at hagent
    obtain ⟨hclk, hrng⟩ := hagent
    rw [effectOf_gen_completes hclk hrng]
    exact inv_respond hs nofun (coherent_okGenerated s)

theorem effectOf_fromtext (n : Byte) (x : Text) (s : State) :
    effectOf (.fromtext n x) s = s.respond (parsedResponse (parse (n == 32#8) x)) :=
  respondParsed_eq_respond ..

/-- A command of a running block leaves the invariant, whatever the last response was. -/
theorem inv_effectOf (i : Instr) {s : State} (hs : s.halted = false) : (effectOf i s).Inv := by
  cases i with
  | totext v => exact inv_respond hs nofun (coherent_okText_toText v)
  | fromtext n x =>
    rw [effectOf_fromtext]
    exact inv_respond hs (parsedResponse_status_ne_fatal _) (coherent_parsedResponse _)
  | setdd h => exact inv_respond hs nofun (coherent_of_no_value _)
  | setp h => exact inv_respond hs nofun (coherent_of_no_value _)
  | setd h => exact inv_respond hs nofun (coherent_of_no_value _)
  | gen => exact inv_effectOf_gen hs
  | _ => exact inv_respond hs nofun (coherent_of_value nofun)

theorem inv_decodedEffect (d : Decoded) {s : State} (hs : s.halted = false) : (decodedEffect d s).Inv := by
  cases d with
  | instr i => exact inv_effectOf i hs
  | reserved op =>
    rw [decodedEffect, raise_eq_respond s (by decide)]
    exact inv_respond hs nofun (coherent_of_no_value _)

/-- Settles O56, by the cases of a step: a command establishes the invariant by its answer, a reset by clearing flag and
response together, and the other steps touch neither. -/
theorem everyStepKeepsInvariant : Obligations.EveryStepKeepsInvariant := by
  intro s t hinv hstep
  cases step_eq_next_iff.mp hstep with
  | idle hp => exact hinv
  | halted hp hs => exact inv_raise_fatal _
  | running hp hs => exact inv_decodedEffect _ hs
  | reset hp => exact inv_of_no_response rfl rfl
  | reseed hp => exact hinv.of_eq rfl rfl
  | reinitialise hp => exact hinv.of_eq rfl rfl

/-! ### Commands that never fail -/

/-- Settles O28, command by command: the effect of each of the eight is an answer with status `OK`. -/
theorem eightCommandsNeverFail : Obligations.EightCommandsNeverFail := by
  intro i s hrunning hfromtext hgen
  have hexec := exec_of_running i hrunning
  cases i with
  | fromtext n x => exact absurd rfl (hfromtext n x)
  | gen => exact absurd rfl hgen
  | _ => exact ⟨_, _, hexec, rfl, rfl⟩

/-! ### The halted block -/

/-- `Fatal` raised again changes the response and nothing else (R74 item 2). -/
theorem raise_fatal_of_halted {s : State} (hs : s.halted = true) :
    s.raise .fatal = { s with response := some (failed .fatal) } := by
  simp [raise_fatal, hs]

theorem whenRunning_eq_of_halted {s : State} (hs : s.halted = true) (effect : State) :
    whenRunning s effect = .next { s with response := some (failed .fatal) } := by
  rw [whenRunning_of_halted hs, raise_fatal_of_halted hs]

/-- Settles O29: the guard of R76 stands before every command. -/
theorem haltedCommandsAnswerFatal : Obligations.HaltedCommandsAnswerFatal := by
  intro i s hs
  rw [exec_eq_whenRunning]
  exact whenRunning_eq_of_halted hs _

/-- Settles O30: the guard of R76 stands before whatever the decoder reads. -/
theorem haltOutranksDecoding : Obligations.HaltOutranksDecoding := by
  intro s p a rest hs hp
  rw [step_command hp]
  exact whenRunning_eq_of_halted (s := s.takeUp a rest) hs _

/-! ### The errors of FROMTEXT and GEN -/

theorem parse_of_bad_digit {x : Text} (hbad : ∃ c ∈ x, hexval c = none) : parse true x = .invalidFormat := by
  have hhex : allHex x = false := by simpa [allHex] using hbad
  simp [parse, hhex]

/-- Settles O20: the length is tested first, and its error changes only the response. -/
theorem fromtextWrongLength : Obligations.FromtextWrongLength := by
  intro n x s hrunning hlen
  have hne : (n == 32#8) = false := beq_false_of_ne fun h => hlen (congrArg BitVec.toNat h)
  rw [exec_of_running _ hrunning, effectOf_fromtext, hne]
  rfl

/-- Settles O21: with the length right, one byte that is no digit fails the parse. -/
theorem fromtextBadDigit : Obligations.FromtextBadDigit := by
  intro x s hrunning hbad
  have hparse : parse ((32 : Byte) == 32#8) x = .invalidFormat := parse_of_bad_digit hbad
  rw [exec_of_running _ hrunning, effectOf_fromtext, hparse]
  rfl

/-- Settles O27: the one effect of a GEN that lacks an agent is to raise `Fatal`. -/
theorem genHaltsWithoutAgents : Obligations.GenHaltsWithoutAgents := by
  intro s hrunning hagent
  rw [exec_gen_fails hrunning hagent, raise_fatal]
  rfl

/-! ### The status numbers -/

/-- Settles O32: the table of R70, status by status. -/
theorem statusNumbers : Obligations.StatusNumbers := ⟨rfl, rfl, rfl, rfl, rfl⟩

end Sys2Proof.Machine
end

section
/-! PROOFS. Reset and hazards (spec/70_reset_and_hazards.md): what a reset restores, and the latency of SETDD. -/

namespace Sys2Proof.Machine

/-- Settles O38: a step at a reset does `State.resetBlock`, which writes the block's registers, flag and response. -/
theorem resetRestoresNewGenerator : Obligations.ResetRestoresNewGenerator := by
  intro s rest hp
  exact step_reset hp

/-- Settles O50: SETDD leaves DEVICE_ID for the first GEN to pack, whose one-shot reset then moves `h` there for the
second. -/
theorem defaultDeviceIdArrivesOneGenLate : Obligations.DefaultDeviceIdArrivesOneGenLate := by
  intro s h a hrunning hclk hrng hclk' hrng'
  have hset : exec (.setdd h) s = .next ((s.writeDefaultDeviceId h).respond okDone) := exec_of_running _ hrunning
  exact ⟨_, _, _, _, _, hset, exec_gen_completes hrunning hclk hrng, rfl, deviceOf_pack ..,
    exec_gen_completes hrunning hclk' hrng', rfl, deviceOf_pack ..⟩

end Sys2Proof.Machine
end

section
/-! PROOFS. Inferences of the spec: `pack` as a number, the text form read in both directions, the parse of a presented
text, and a step at each kind of the host's next action (spec/40_pack.md, 41_identifier.md, 70_reset_and_hazards.md). -/

namespace Sys2Proof.Machine

/-- Settles O2: the placed fields are disjoint, so the packed value is their sum. -/
theorem packIsTheSumOfItsFields : Obligations.PackIsTheSumOfItsFields :=
  pack_toNat

/-! ### The text form -/

/-- Settles O11: the sum of the digits reads a value back from its text. -/
theorem distinctValuesHaveDistinctTexts : Obligations.DistinctValuesHaveDistinctTexts := by
  intro v w htext
  calc v = hexSum (toText v) := (hexSum_toText v).symm
    _ = hexSum (toText w) := congrArg hexSum htext
    _ = w := hexSum_toText w

/-- `from_text` answers a value exactly for 32 digits, and the value is their sum (R53). -/
theorem fromText_eq_value_iff {s : Text} {v : U128} :
    fromText s = .value v ↔ s.length = 32 ∧ allHex s = true ∧ hexSum s = v := by
  by_cases hlen : s.length = 32
  · cases hhex : allHex s with
    | true => simp [fromText_of_allHex hlen hhex, hlen]
    | false => simp [fromText, parse, hlen, hhex]
  · simp [fromText_of_length_ne hlen, hlen]

/-- Lowering keeps a character code exactly when it is none of `A` to `F` (R95). -/
theorem lowerCode_eq_self_iff (c : Nat) : lowerCode c = c ↔ ¬ (0x41 ≤ c ∧ c ≤ 0x46) := by
  unfold lowerCode
  split <;> omega

/-- Settles O14: the text of the sum of the digits is the digits lowered, and a text is fixed by its character codes. -/
theorem textsComeBackLowered : Obligations.TextsComeBackLowered := by
  intro s v hparse
  obtain ⟨hlen, hhex, rfl⟩ := fromText_eq_value_iff.mp hparse
  have hlowered := toText_hexSum hlen hhex
  have hcodes : Function.Injective (List.map (BitVec.toNat (w := 8))) :=
    List.map_injective_iff.mpr fun _ _ => BitVec.eq_of_toNat_eq
  refine ⟨hlowered, ?_⟩
  rw [← hcodes.eq_iff, hlowered, List.map_inj_left]
  simp only [lowerCode_eq_self_iff]

/-! ### The presented text -/

/-- The offered length is 32 exactly when the text's is: 255 stands for every length that 8 bits do not hold (R54). -/
theorem offered_beq_32 {x : Text} {n : Byte} (hn : n.toNat = min x.length 255) :
    (n == 32#8) = (x.length == 32) := by
  have hiff : n = 32#8 ↔ x.length = 32 := by
    rw [← BitVec.toNat_inj, hn, BitVec.toNat_ofNat]
    omega
  rw [Bool.eq_iff_iff, beq_iff_eq, beq_iff_eq, hiff]

/-- Lanes that hold every byte of a text of 32 bytes are the text (R22). -/
theorem toList_eq_of_presented {x : Text} {lanes : Lanes} (hlen : x.length = 32)
    (hlanes : ∀ i < 32, i < x.length → lanes.toList[i]? = x[i]?) : lanes.toList = x := by
  refine List.ext_getElem? fun i => ?_
  by_cases hi : i < 32
  · exact hlanes i hi (hlen ▸ hi)
  · rw [List.getElem?_eq_none (by simpa using hi), List.getElem?_eq_none (by omega)]

/-- What the ports offer for a text parses as the text (R54). -/
theorem parse_presented {x : Text} {n : Byte} {lanes : Lanes} (hn : n.toNat = min x.length 255)
    (hlanes : ∀ i < 32, i < x.length → lanes.toList[i]? = x[i]?) :
    parse (n == 32#8) lanes.toList = fromText x := by
  rw [offered_beq_32 hn]
  by_cases hlen : x.length = 32
  · rw [toList_eq_of_presented hlen hlanes]
    rfl
  · rw [fromText_of_length_ne hlen, beq_false_of_ne hlen]
    rfl

/-- Settles O22: FROMTEXT answers the parse of what the ports offer, which is the parse of the text. -/
theorem presentedTextParses : Obligations.PresentedTextParses := by
  intro x n lanes s hrunning hn hlanes
  rw [exec_of_running _ hrunning, effectOf_fromtext, parse_presented hn hlanes]
  rfl

/-! ### Steps -/

/-- Settles O36, by the cases of a step: the host's next action, and at a command the guard of R76, leave no other. -/
theorem everyStepAnswers : Obligations.EveryStepAnswers := by
  intro s
  obtain ⟨t, ht⟩ := exists_stepCase s
  exact ⟨t, step_eq_next_of_stepCase ht⟩

/-- Settles O35: step and command are the same effect under the same guard. -/
theorem stepRunsDecodedInstruction : Obligations.StepRunsDecodedInstruction := by
  intro s p a rest i hp hdecode
  rw [step_command hp, hdecode, exec_eq_whenRunning]
  rfl

/-- Settles O37: an empty list of actions is a waiting step. -/
theorem idleBlockWaits : Obligations.IdleBlockWaits :=
  fun _ => step_idle

end Sys2Proof.Machine
end
